-- ==== Sys2Proof/Word.lean ====
section
/-!
DEFINITION. The widths of the machine (spec/00_scope.md section 4) and the fixed sets of names its operands range over:
register numbers (10_state.md R10), conditions (R16) and MMU sub-operations (47_privilege_mmu.md R191).
-/
namespace Sys2Proof

/-- `XLEN`: one data byte, one register, one packed address, one stack entry (00_scope.md section 4). -/
abbrev Byte := BitVec 8

/-- A segment number, 0..255 (20_memory.md R40). -/
abbrev Segment := BitVec 8

/-- A page number within a segment, 0..7 (20_memory.md R40). -/
abbrev PageNum := BitVec 3

/-- A line number as configuration writes it, 0..31 (20_memory.md R40). -/
abbrev LineNum := BitVec 5

/-- A port address, 0..15 (20_memory.md R43). -/
abbrev PortAddr := BitVec 4

/-- A system-call number as `ENT` holds it, 0..31 (30_encoding.md R83). -/
abbrev SysNum := BitVec 5

/-- The operand field of a first byte, read as an unsigned number; the widest is 5 bits (30_encoding.md R71, R73). -/
abbrev Operand := BitVec 5

/-- The eight register numbers (10_state.md R10): number 0 is the accumulator, 1 to 7 are `R[1]` to `R[7]`. -/
inductive Reg where
  | acc | r1 | r2 | r3 | r4 | r5 | r6 | r7
  deriving DecidableEq, Repr

/-- The eight conditions in the order of 10_state.md R16: overflow, negative, zero, parity, then their complements. -/
inductive Cond where
  | c | n | z | p | nc | nn | nz | np
  deriving DecidableEq, Repr

/-- The eight privileged sub-operations of `MMU` in the order of 47_privilege_mmu.md R191. -/
inductive MmuOp where
  /-- 0, set instruction segment (R193) -/
  | isg
  /-- 1, push the instruction segment on the call stack (R194) -/
  | psg
  /-- 2, set the data segment override (R195) -/
  | dsg
  /-- 3, set the kernel data segment override (R196) -/
  | ksg
  /-- 4, load kernel instruction page (R197) -/
  | lkp
  /-- 5, exit kernel mode (R198) -/
  | xkm
  /-- 6, set process id (R199) -/
  | spi
  /-- 7, get process id (R200) -/
  | gpi
  deriving DecidableEq, Repr

end Sys2Proof
end

