-- ==== Sys2Proof/Machine/Memory.lean ====
section
/-!
DEFINITION. Lines and pages of spec/20_memory.md: bytes of memory as (address, byte) pairs with addresses strictly rising,
an unlisted address being ABSENT (no statement, 10_state.md R21). A page of a slot is such a list over lines 0..31; the
canonical store (R42) is one over the 16-bit addresses (segment 8, page 3, line 5) together with the set of mapped pages
(10_state.md R24).
-/
namespace Sys2Proof.Machine

/-- Bytes by address, addresses strictly rising; an address that is not listed is absent. -/
abbrev Memory := List Host.Cell

/-- The byte at an address, or none where no statement is present (R21). -/
def Memory.get : Memory → Nat → Option Byte
  | [], _ => none
  | (k, v) :: rest, a => if k = a then some v else Memory.get rest a

/-- Write one byte, making an absent address present (R53). -/
def Memory.set : Memory → Nat → Byte → Memory
  | [], a, v => [(a, v)]
  | (k, w) :: rest, a, v =>
    if a < k then (a, v) :: (k, w) :: rest
    else if a = k then (a, v) :: rest
    else (k, w) :: Memory.set rest a v

/-- The addresses rise strictly and lie in `lo ≤ a < hi`. -/
def Memory.wfIn (lo hi : Nat) : Memory → Bool
  | [] => true
  | (k, _) :: rest => decide (lo ≤ k) && decide (k < hi) && Memory.wfIn (k + 1) hi rest

/-- The canonical form of the whole memory: addresses strictly rising below 2^16. No listed entry can equal what an
unlisted address reads as, since an unlisted address holds no byte at all. -/
def Memory.wf (m : Memory) : Bool := Memory.wfIn 0 65536 m

/-- The canonical form of one page's lines: line numbers strictly rising below 32 (R21). -/
def Memory.wfLines (m : Memory) : Bool := Memory.wfIn 0 32 m

/-- The 32 lines that stand at `base` to `base + 31`, renumbered from 0. -/
def Memory.slice (base : Nat) : Memory → Memory
  | [] => []
  | (k, v) :: rest =>
    if base ≤ k ∧ k < base + 32 then (k - base, v) :: Memory.slice base rest else Memory.slice base rest

/-- A page's lines placed at `base`; a page has lines 0..31 only. -/
def Memory.shift (base : Nat) : Memory → Memory
  | [] => []
  | (k, v) :: rest => if k < 32 then (base + k, v) :: Memory.shift base rest else Memory.shift base rest

/-- The entries below an address. -/
def Memory.below (hi : Nat) : Memory → Memory
  | [] => []
  | (k, v) :: rest => if k < hi then (k, v) :: Memory.below hi rest else Memory.below hi rest

/-- The entries at or above an address. -/
def Memory.above (lo : Nat) : Memory → Memory
  | [] => []
  | (k, v) :: rest => if lo ≤ k then (k, v) :: Memory.above lo rest else Memory.above lo rest

/-- The 32 lines at `base` replaced by a page's lines. -/
def Memory.putPage (m : Memory) (base : Nat) (lines : Memory) : Memory :=
  Memory.below base m ++ (Memory.shift base lines ++ Memory.above (base + 32) m)

/-- The number of a page among all pages of all segments: `{seg[7:0], page[2:0]}` (R40). -/
def pageKey (seg : Segment) (page : PageNum) : Nat := seg.toNat * 8 + page.toNat

/-- The address of a line of a page: `{seg, page, line}` (R40). -/
def lineAddr (seg : Segment) (page : PageNum) (line : Nat) : Nat := pageKey seg page * 32 + line

/-- Insert a page number into a strictly rising list. -/
def insertKey (k : Nat) : List Nat → List Nat
  | [] => [k]
  | j :: rest => if k < j then k :: j :: rest else if k = j then j :: rest else j :: insertKey k rest

/-- Page numbers rise strictly and lie in `lo ≤ k < hi`. -/
def keysIn (lo hi : Nat) : List Nat → Bool
  | [] => true
  | k :: rest => decide (lo ≤ k) && decide (k < hi) && keysIn (k + 1) hi rest

/-- `STORE` (10_state.md R24): the bytes of its pages, and which (segment, page) pairs have an entry. A mapped page may
have every line absent. -/
structure Store where
  cells : Memory
  mapped : List Nat
  deriving DecidableEq, Repr

/-- The store with no page. -/
def Store.empty : Store := ⟨[], []⟩

/-- Whether `(seg, page)` has an entry (R24). -/
def Store.isMapped (st : Store) (seg : Segment) (page : PageNum) : Bool := st.mapped.elem (pageKey seg page)

/-- The byte of one line in the canonical store; none where the page is unmapped or the line absent. -/
def Store.get (st : Store) (seg : Segment) (page : PageNum) (line : Nat) : Option Byte :=
  if st.isMapped seg page then st.cells.get (lineAddr seg page line) else none

/-- A clone of a page's lines; all 32 absent when the page is unmapped (R44, R46, R47). -/
def Store.clone (st : Store) (seg : Segment) (page : PageNum) : Memory :=
  if st.isMapped seg page then Memory.slice (lineAddr seg page 0) st.cells else []

/-- Replace the page's lines, or insert the page if it is unmapped (R47). -/
def Store.put (st : Store) (seg : Segment) (page : PageNum) (lines : Memory) : Store :=
  { cells := st.cells.putPage (lineAddr seg page 0) lines, mapped := insertKey (pageKey seg page) st.mapped }

/-- Canonical form of the store: both lists strictly rising and in range, and every byte in a mapped page. -/
def Store.wf (st : Store) : Bool :=
  st.cells.wf && keysIn 0 2048 st.mapped && st.cells.all fun cell => st.mapped.elem (cell.1 / 32)

end Sys2Proof.Machine
end

