-- ==== Sys2Proof/Config.lean ====
section
/-!
DEFINITION. What is fixed for a run: the argument parameters of spec/00_scope.md section 4 as the machine holds them
(`Params`, `RunConfig`), the launch configuration as the host writes it (`RawConfig`, integers of any size), and the one
free value the spec leaves to the outside, the answer of a device to a port load (46_ports.md R180).
-/
namespace Sys2Proof

/-- `MODE` (10_state.md R28): the two privilege levels. -/
inductive Mode where
  | kernel | application
  deriving DecidableEq, Repr

/-- The closed set of device variants a configuration may place at a port (60_exceptions.md R227). The block sees only
that a device is there; what a variant does is outside the block. -/
inductive DeviceKind where
  | integerIO | asciiIO | terminal | timer | multiply | divide | modulo
  deriving DecidableEq, Repr

/-- `KERNEL_ENTRY` when configured: segment, page, line (00_scope.md section 4). -/
structure EntryPoint where
  seg : Segment
  page : PageNum
  line : LineNum
  deriving DecidableEq, Repr

/-- One entry of `SYSCALL_TABLE`: number to segment and page (00_scope.md section 4). -/
structure SyscallEntry where
  number : Byte
  seg : Segment
  page : PageNum
  deriving DecidableEq, Repr

/-- One entry of `PORT_MAP`, flattened to one entry per port address (46_ports.md R185). -/
structure PortEntry where
  port : PortAddr
  kind : DeviceKind
  deriving DecidableEq, Repr

/-- The parameters a step reads: `KERNEL_ENTRY`, `SYSCALL_TABLE`, `PORT_MAP` (00_scope.md section 4). Both maps answer
with the first entry for a key. -/
structure Params where
  kernelEntry : Option EntryPoint
  syscallTable : List SyscallEntry
  portMap : List PortEntry
  deriving DecidableEq, Repr

/-- Everything reset takes (70_reset_and_hazards.md R240). -/
structure RunConfig where
  params : Params
  store0 : Machine.Store
  resetMode : Mode
  deriving DecidableEq, Repr

/-- DESIGN CHOICE (log 2). The configuration of `State.reset`: no page, no kernel entry, no syscall, no device;
`RESET_MODE` at the spec's default `kernel` (92_eei_decisions.md, open parameters). -/
def RunConfig.default : RunConfig :=
  { params := { kernelEntry := none, syscallTable := [], portMap := [] }
    store0 := Machine.Store.empty
    resetMode := .kernel }

/-- One device of the configuration's `ports` list: its range of consecutive port addresses (46_ports.md R185). DESIGN CHOICE
(log 15): `count` may be 0, and the device then has no address. -/
structure RawPort where
  first : Int
  count : Nat
  kind : DeviceKind
  deriving DecidableEq, Repr

/-- One page the host supplies: its address and its lines, as integers (70_reset_and_hazards.md R244). -/
structure RawPage where
  seg : Int
  page : Int
  lines : List (Int × Int)
  deriving DecidableEq, Repr

/-- The launch configuration as the host writes it; its integers may be out of range, and it is then refused
(00_scope.md R3). -/
structure RawConfig where
  kernelEntry : Option (Int × Int × Int)
  syscallTable : List (Int × Int × Int)
  ports : List RawPort
  pages : List RawPage
  resetMode : Mode
  deriving DecidableEq, Repr

/-- FREE VALUE (log 4). The `i`-th answer of the port-load oracle beyond those a run lists: "an unconstrained input (an
oracle answer in 0..255)" (46_ports.md R180; 93_implementation_defined.md U10). It has no body: nothing is known of it. -/
opaque Config.freePortAnswer : Nat → Byte

end Sys2Proof
end

