-- ==== Sys2Proof/Syntax.lean ====
section
/-!
DEFINITION. The instructions: one constructor per row of spec/opcode_table.json, in the declared order of
spec/30_encoding.md R76. Operand meanings are those of R83; `b` is the secondary byte (R72).
-/
namespace Sys2Proof

/-- An instruction with its operands. -/
inductive Instr where
  /-- no operation (R100) -/
  | nop
  /-- set the propagate-carry modifier (R130) -/
  | cry
  /-- forward the carry into the next address (R153) -/
  | fwd
  /-- return (R157) -/
  | ret
  /-- jump (R154) -/
  | jmp (b : Byte)
  /-- call (R155) -/
  | cal (b : Byte)
  /-- push immediate on the parameter stack (R142) -/
  | ppi (b : Byte)
  /-- push immediate on the call stack (R145) -/
  | cpi (b : Byte)
  /-- load immediate (R110) -/
  | imm (r : Reg) (b : Byte)
  /-- accumulator set from register (R111) -/
  | ast (r : Reg)
  /-- register set from accumulator (R112) -/
  | rst (r : Reg)
  /-- increment in place (R126) -/
  | inc (r : Reg)
  /-- decrement in place (R127) -/
  | dec (r : Reg)
  /-- negate in place (R128) -/
  | neg (r : Reg)
  /-- logical shift right by one in place (R129) -/
  | rsh (r : Reg)
  /-- add (R121) -/
  | add (r : Reg)
  /-- subtract (R122) -/
  | sub (r : Reg)
  /-- bitwise and (R123) -/
  | and (r : Reg)
  /-- bitwise inclusive or (R124) -/
  | ior (r : Reg)
  /-- bitwise exclusive or (R125) -/
  | xor (r : Reg)
  /-- push register on the parameter stack (R140) -/
  | pps (r : Reg)
  /-- pop the parameter stack into a register (R141) -/
  | ppl (r : Reg)
  /-- push register on the call stack (R143) -/
  | cps (r : Reg)
  /-- pop the call stack into a register (R144) -/
  | cpl (r : Reg)
  /-- set the pointer modifier (R152) -/
  | poi (r : Reg)
  /-- branch if condition (R156) -/
  | brh (cc : Cond) (b : Byte)
  /-- memory load (R170) -/
  | mld (r : Reg) (b : Byte)
  /-- memory store (R171) -/
  | mst (r : Reg) (b : Byte)
  /-- privileged MMU operation (R191) -/
  | mmu (f : MmuOp)
  /-- port store (R181) -/
  | pst (p : PortAddr)
  /-- port load (R182) -/
  | pld (p : PortAddr)
  /-- enter the kernel, the system call (R190) -/
  | ent (n : SysNum)
  deriving DecidableEq, Repr

end Sys2Proof
end

