-- ==== Sys2Proof/Decode.lean ====
section
/-!
DEFINITION. The instruction codec of spec/30_encoding.md: the opcode map (R76), the secondary-byte table (R79),
first-match decoding (R75), the decoder over bytes (R82) and, after it, the encoder (R74).
-/
namespace Sys2Proof

/-- The closed enumeration of opcodes, in declared order (R76). -/
inductive Opcode where
  | nop | cry | fwd | ret | jmp | cal | ppi | cpi
  | imm | ast | rst | inc | dec | neg | rsh | add
  | sub | and | ior | xor | pps | ppl | cps | cpl
  | poi | brh | mld | mst | mmu | pst | pld | ent
  deriving DecidableEq, Repr

/-- The opcodes in the declared order of R76 (ascending pattern). -/
def opcodes : List Opcode :=
  [.nop, .cry, .fwd, .ret, .jmp, .cal, .ppi, .cpi] ++
  [.imm, .ast, .rst, .inc, .dec, .neg, .rsh, .add] ++
  [.sub, .and, .ior, .xor, .pps, .ppl, .cps, .cpl] ++
  [.poi, .brh, .mld, .mst, .mmu, .pst, .pld, .ent]

/-- The opcode's bit pattern, column "pattern" of R76; its low `width` bits are 0 (R71). -/
def Opcode.pattern : Opcode → Byte
  | .nop => 0x00
  | .cry => 0x01
  | .fwd => 0x02
  | .ret => 0x03
  | .jmp => 0x04
  | .cal => 0x05
  | .ppi => 0x06
  | .cpi => 0x07
  | .imm => 0x10
  | .ast => 0x18
  | .rst => 0x20
  | .inc => 0x28
  | .dec => 0x30
  | .neg => 0x38
  | .rsh => 0x40
  | .add => 0x48
  | .sub => 0x50
  | .and => 0x58
  | .ior => 0x60
  | .xor => 0x68
  | .pps => 0x70
  | .ppl => 0x78
  | .cps => 0x80
  | .cpl => 0x88
  | .poi => 0x90
  | .brh => 0x98
  | .mld => 0xA0
  | .mst => 0xA8
  | .mmu => 0xB0
  | .pst => 0xC0
  | .pld => 0xD0
  | .ent => 0xE0

/-- The operand width in bits, column "w" of R76. -/
def Opcode.width : Opcode → Nat
  | .nop | .cry | .fwd | .ret | .jmp | .cal | .ppi | .cpi => 0
  | .pst | .pld => 4
  | .ent => 5
  | .imm | .ast | .rst | .inc | .dec | .neg | .rsh | .add | .sub | .and | .ior
  | .xor | .pps | .ppl | .cps | .cpl | .poi | .brh | .mld | .mst | .mmu => 3

/-- `hasSecondaryByte` (R79): the static table of the eight opcodes with a secondary byte. -/
def Opcode.hasSecondary : Opcode → Bool
  | .jmp | .cal | .ppi | .cpi | .imm | .brh | .mld | .mst => true
  | .nop | .cry | .fwd | .ret | .ast | .rst | .inc | .dec | .neg | .rsh | .add | .sub
  | .and | .ior | .xor | .pps | .ppl | .cps | .cpl | .poi | .mmu | .pst | .pld | .ent => false

/-- The operand mask `(1 << w) - 1` (R73). -/
def Opcode.mask (op : Opcode) : Byte := (1 <<< op.width) - 1

/-- A byte matches an opcode when pattern and byte agree above the operand field (R75). -/
def Opcode.accepts (op : Opcode) (b : Byte) : Bool := b >>> op.width == op.pattern >>> op.width

/-- The first opcode of a list that accepts a byte (R75). -/
def firstMatch : List Opcode → Byte → Option Opcode
  | [], _ => none
  | op :: rest, b => if op.accepts b then some op else firstMatch rest b

/-- `Decode(byte)` (R75): the opcode and its operand, or none for `Data`. -/
def decodeByte (b : Byte) : Option (Opcode × Operand) :=
  match firstMatch opcodes b with
  | some op => some (op, (b &&& op.mask).setWidth 5)
  | none => none

/-- The register a 3-bit operand names (R83, 10_state.md R10). -/
def Reg.ofBits (k : BitVec 3) : Reg :=
  match k.toNat with
  | 0 => .acc
  | 1 => .r1
  | 2 => .r2
  | 3 => .r3
  | 4 => .r4
  | 5 => .r5
  | 6 => .r6
  | _ => .r7

/-- The number a constructor stands for, inverse to `Reg.ofBits`. -/
def Reg.bits : Reg → BitVec 3
  | .acc => 0 | .r1 => 1 | .r2 => 2 | .r3 => 3
  | .r4 => 4 | .r5 => 5 | .r6 => 6 | .r7 => 7

/-- The condition a 3-bit operand names (R83, 10_state.md R16). -/
def Cond.ofBits (k : BitVec 3) : Cond :=
  match k.toNat with
  | 0 => .c
  | 1 => .n
  | 2 => .z
  | 3 => .p
  | 4 => .nc
  | 5 => .nn
  | 6 => .nz
  | _ => .np

/-- The number a constructor stands for, inverse to `Cond.ofBits`. -/
def Cond.bits : Cond → BitVec 3
  | .c => 0 | .n => 1 | .z => 2 | .p => 3
  | .nc => 4 | .nn => 5 | .nz => 6 | .np => 7

/-- The `MMU` sub-operation a 3-bit operand names (R83, 47_privilege_mmu.md R191). -/
def MmuOp.ofBits (k : BitVec 3) : MmuOp :=
  match k.toNat with
  | 0 => .isg
  | 1 => .psg
  | 2 => .dsg
  | 3 => .ksg
  | 4 => .lkp
  | 5 => .xkm
  | 6 => .spi
  | _ => .gpi

/-- The number a constructor stands for, inverse to `MmuOp.ofBits`. -/
def MmuOp.bits : MmuOp → BitVec 3
  | .isg => 0 | .psg => 1 | .dsg => 2 | .ksg => 3
  | .lkp => 4 | .xkm => 5 | .spi => 6 | .gpi => 7

/-- The instruction `(op, k)` with secondary byte `b` stands for (R83); `b` is unused by a one-byte opcode. -/
def Opcode.instr (op : Opcode) (k : Operand) (b : Byte) : Instr :=
  match op with
  | .nop => .nop
  | .cry => .cry
  | .fwd => .fwd
  | .ret => .ret
  | .jmp => .jmp b
  | .cal => .cal b
  | .ppi => .ppi b
  | .cpi => .cpi b
  | .imm => .imm (Reg.ofBits (k.setWidth 3)) b
  | .ast => .ast (Reg.ofBits (k.setWidth 3))
  | .rst => .rst (Reg.ofBits (k.setWidth 3))
  | .inc => .inc (Reg.ofBits (k.setWidth 3))
  | .dec => .dec (Reg.ofBits (k.setWidth 3))
  | .neg => .neg (Reg.ofBits (k.setWidth 3))
  | .rsh => .rsh (Reg.ofBits (k.setWidth 3))
  | .add => .add (Reg.ofBits (k.setWidth 3))
  | .sub => .sub (Reg.ofBits (k.setWidth 3))
  | .and => .and (Reg.ofBits (k.setWidth 3))
  | .ior => .ior (Reg.ofBits (k.setWidth 3))
  | .xor => .xor (Reg.ofBits (k.setWidth 3))
  | .pps => .pps (Reg.ofBits (k.setWidth 3))
  | .ppl => .ppl (Reg.ofBits (k.setWidth 3))
  | .cps => .cps (Reg.ofBits (k.setWidth 3))
  | .cpl => .cpl (Reg.ofBits (k.setWidth 3))
  | .poi => .poi (Reg.ofBits (k.setWidth 3))
  | .brh => .brh (Cond.ofBits (k.setWidth 3)) b
  | .mld => .mld (Reg.ofBits (k.setWidth 3)) b
  | .mst => .mst (Reg.ofBits (k.setWidth 3)) b
  | .mmu => .mmu (MmuOp.ofBits (k.setWidth 3))
  | .pst => .pst (k.setWidth 4)
  | .pld => .pld (k.setWidth 4)
  | .ent => .ent k

/-- What decoding a list of bytes answers: an instruction with the bytes after it, or a rejection by name. -/
inductive DecodeResult where
  /-- the instruction at the front and the bytes after it -/
  | ok (i : Instr) (rest : List Byte)
  /-- the first byte matches no opcode: `Data` (R80) -/
  | data (b : Byte)
  /-- there is no first byte -/
  | noFirstByte
  /-- the opcode has a secondary byte and there is none -/
  | noSecondByte (op : Opcode)
  deriving DecidableEq, Repr

/-- Decode the instruction at the front of a list of bytes: its length is decided by its first byte alone (R82). -/
def decode : List Byte → DecodeResult
  | [] => .noFirstByte
  | b :: rest =>
    match decodeByte b with
    | none => .data b
    | some (op, k) =>
      if op.hasSecondary then
        match rest with
        | [] => .noSecondByte op
        | b2 :: rest2 => .ok (op.instr k b2) rest2
      else .ok (op.instr k 0#8) rest

/-- The instruction this decoder reads from bits `w`, numbered as spec/opcode_table.json numbers them: the first byte is
bits 7..0, the secondary byte bits 15..8, and every bit at or above `nbits` is 0. -/
def decodeTableWord (nbits w : Nat) : Option Instr :=
  match decode [BitVec.ofNat 8 (w % 2 ^ nbits), BitVec.ofNat 8 (w % 2 ^ nbits / 256)] with
  | .ok i _ => some i
  | _ => none

/-- Whether an operand fits the opcode's width; with width 0 only operand 0 does (R74). -/
def Opcode.fits (op : Opcode) (k : Nat) : Bool := decide (k < 2 ^ op.width)

/-- Encode one first byte (R74): none is the encoder's configuration error. -/
def encodeByte (op : Opcode) (k : Nat) : Option Byte :=
  if op.fits k then some (op.pattern ||| (BitVec.ofNat 8 k &&& op.mask)) else none

/-- The opcode of an instruction. -/
def Instr.opcode : Instr → Opcode
  | .nop => .nop
  | .cry => .cry
  | .fwd => .fwd
  | .ret => .ret
  | .jmp _ => .jmp
  | .cal _ => .cal
  | .ppi _ => .ppi
  | .cpi _ => .cpi
  | .imm _ _ => .imm
  | .ast _ => .ast
  | .rst _ => .rst
  | .inc _ => .inc
  | .dec _ => .dec
  | .neg _ => .neg
  | .rsh _ => .rsh
  | .add _ => .add
  | .sub _ => .sub
  | .and _ => .and
  | .ior _ => .ior
  | .xor _ => .xor
  | .pps _ => .pps
  | .ppl _ => .ppl
  | .cps _ => .cps
  | .cpl _ => .cpl
  | .poi _ => .poi
  | .brh _ _ => .brh
  | .mld _ _ => .mld
  | .mst _ _ => .mst
  | .mmu _ => .mmu
  | .pst _ => .pst
  | .pld _ => .pld
  | .ent _ => .ent

/-- The operand field of an instruction's first byte (R83). -/
def Instr.operand : Instr → Operand
  | .nop | .cry | .fwd | .ret | .jmp _ | .cal _ | .ppi _ | .cpi _ => 0
  | .imm r _ | .mld r _ | .mst r _ | .ast r | .rst r | .inc r | .dec r | .neg r | .rsh r
  | .add r | .sub r | .and r | .ior r | .xor r | .pps r | .ppl r | .cps r | .cpl r
  | .poi r => r.bits.setWidth 5
  | .brh cc _ => cc.bits.setWidth 5
  | .mmu f => f.bits.setWidth 5
  | .pst p | .pld p => p.setWidth 5
  | .ent n => n

/-- The secondary byte of an instruction, where it has one (R79). -/
def Instr.second : Instr → Option Byte
  | .jmp b | .cal b | .ppi b | .cpi b | .imm _ b | .brh _ b | .mld _ b | .mst _ b => some b
  | .nop | .cry | .fwd | .ret | .ast _ | .rst _ | .inc _ | .dec _ | .neg _ | .rsh _ | .add _ | .sub _ => none
  | .and _ | .ior _ | .xor _ | .pps _ | .ppl _ | .cps _ | .cpl _ | .poi _ | .mmu _ | .pst _ | .pld _ | .ent _ => none

/-- The bytes of an instruction in memory order (R54, R74). -/
def encode (i : Instr) : List Byte :=
  (i.opcode.pattern ||| i.operand.setWidth 8) :: i.second.toList

end Sys2Proof
end

