-- ==== Sys2Proof/Machine/State.lean ====
section
/-!
DEFINITION. The state of the machine (spec/10_state.md section 1, every row of its table), the reasons a step can stop, and
the machine right after reset (70_reset_and_hazards.md R240, R241).
-/
namespace Sys2Proof.Machine

/-- The four stored condition flags (10_state.md R15). -/
structure Flags where
  /-- overflow, the carry out -/
  c : Bool
  /-- negative -/
  n : Bool
  /-- zero -/
  z : Bool
  /-- parity: bit 0 of the accumulator before its last write -/
  p : Bool
  deriving DecidableEq, Repr

/-- `ISLOT`, the instruction slot (10_state.md R22). -/
structure ISlot where
  seg : Segment
  page : PageNum
  valid : Bool
  lines : Memory
  deriving DecidableEq, Repr

/-- `DSLOT`, the data slot (10_state.md R23). -/
structure DSlot where
  seg : Segment
  page : PageNum
  valid : Bool
  dirty : Bool
  lines : Memory
  deriving DecidableEq, Repr

/-- `EU` (10_state.md R29): `Fetch`, or `Await(op, operand)` holding the decoded first byte of a two-byte instruction. -/
inductive EuState where
  | fetch
  | await (op : Opcode) (k : Operand)
  deriving DecidableEq, Repr

/-- The fatal conditions `FAULT` can hold (60_exceptions.md R211). -/
inductive Fatal where
  /-- code 1: the tick, in `Fetch` state, on a byte that decodes to `Data` (R212) -/
  | undecodableInstruction
  /-- code 2: `MMU 4` in kernel mode on a number the syscall table lacks (R213) -/
  | unmappedSyscall
  /-- code 3: `ENT` in kernel mode (R214) -/
  | nestedKernelCall
  /-- code 4: `ENT` in application mode without a configured kernel entry (R215) -/
  | kernelEntryUnconfigured
  /-- code 5: reset without a page at (0, 0) (R215, R240) -/
  | noProgramEntry
  deriving DecidableEq, Repr

/-- An entry of the event history (46_ports.md R180; 95_test_vectors.md section 0). -/
inductive Event where
  /-- a port store that reached a device -/
  | portStore (p : PortAddr) (v : Byte)
  /-- a port load that reached a device, with its answer -/
  | portLoad (p : PortAddr) (v : Byte)
  /-- the write-back of a dirty data slot into `STORE` -/
  | writeBack (seg : Segment) (page : PageNum)
  deriving DecidableEq, Repr

/-- Why a step could stop with a fault: NO REASON EXISTS, the type has no constructor. Every fatal condition of the spec
is the absorbing state `FAULT` and so a next state (60_exceptions.md R210; log 6). Safe: nothing is hidden by a stop. -/
inductive Fault : Type where
  deriving DecidableEq, Repr

/-- Why the model refuses. -/
inductive Refusal where
  /-- Raised by no arm of `exec` in this model: every instruction has its meaning. It is the host's name for an
  instruction not yet modelled. Safe. -/
  | notModelled (mnemonic : String)
  /-- Raised by `launch` only, before any tick, for a configuration out of range: "the model gives such a launch no
  meaning" (00_scope.md R3, 46_ports.md R185). Safe. -/
  | badConfiguration
  deriving DecidableEq, Repr

/-- The whole state of the block (10_state.md section 1), the parameters of the run (log 1), the event history (R180) and
the port-load oracle's answers (log 4). -/
structure State where
  /-- `A`, the accumulator, register number 0 (R10) -/
  a : Byte
  /-- `R[1]` (R10) -/
  r1 : Byte
  /-- `R[2]` (R10) -/
  r2 : Byte
  /-- `R[3]` (R10) -/
  r3 : Byte
  /-- `R[4]` (R10) -/
  r4 : Byte
  /-- `R[5]` (R10) -/
  r5 : Byte
  /-- `R[6]` (R10) -/
  r6 : Byte
  /-- `R[7]` (R10) -/
  r7 : Byte
  /-- `C`, `N`, `Z`, `P` (R15) -/
  flags : Flags
  /-- `CMOD`, the propagate-carry modifier (R17) -/
  cmod : Bool
  /-- `PTR`, the pointer modifier (R18) -/
  ptr : Byte
  /-- `FWDB`, the forwarded-carry modifier (R18) -/
  fwdb : Bool
  /-- `PSTACK`, the parameter stack, top first (R19) -/
  pstack : List Byte
  /-- `CSTACK`, the call stack, top first (R19) -/
  cstack : List Byte
  /-- `LINE`, the line counter, 0..32 (R20) -/
  line : Nat
  /-- `ISLOT` (R22) -/
  islot : ISlot
  /-- `DSLOT` (R23) -/
  dslot : DSlot
  /-- `STORE` (R24) -/
  store : Store
  /-- `ISEG` (R25) -/
  iseg : Segment
  /-- `DS`, the data-segment override (R26) -/
  ds : Option Segment
  /-- `KDS`, the kernel data-segment override (R26) -/
  kds : Option Segment
  /-- `PID` (R27) -/
  pid : Byte
  /-- `MODE` (R28) -/
  mode : Mode
  /-- `EU` (R29) -/
  eu : EuState
  /-- `HALTED` (R30) -/
  halted : Bool
  /-- `FAULT` (R30) -/
  fault : Option Fatal
  /-- the event history, oldest first (46_ports.md R180) -/
  events : List Event
  /-- `KERNEL_ENTRY`, `SYSCALL_TABLE`, `PORT_MAP`, fixed for a run (00_scope.md section 4) -/
  cfg : Params
  /-- the model's own: oracle answers listed for this run, oldest first (log 4) -/
  portAnswers : List Byte
  /-- the model's own: how many port loads have reached a device (log 4) -/
  portLoads : Nat
  deriving DecidableEq, Repr

/-- Reset on a configuration (70_reset_and_hazards.md R240, R241). Where `STORE0` has no page `(0, 0)` the slot holds no
line (log 3). -/
def State.resetWith (cfg : RunConfig) : State where
  a := 0#8
  r1 := 0#8
  r2 := 0#8
  r3 := 0#8
  r4 := 0#8
  r5 := 0#8
  r6 := 0#8
  r7 := 0#8
  flags := { c := false, n := false, z := false, p := false }
  cmod := false
  ptr := 0#8
  fwdb := false
  pstack := []
  cstack := []
  line := 0
  islot := { seg := 0#8, page := 0#3, valid := true, lines := cfg.store0.clone 0#8 0#3 }
  dslot := { seg := 0#8, page := 0#3, valid := false, dirty := false, lines := [] }
  store := cfg.store0
  iseg := 0#8
  ds := none
  kds := none
  pid := 0#8
  mode := cfg.resetMode
  eu := .fetch
  halted := false
  fault := if cfg.store0.isMapped 0#8 0#3 then none else some .noProgramEntry
  events := []
  cfg := cfg.params
  portAnswers := []
  portLoads := 0

/-- The machine right after reset with nothing supplied (log 2): `STORE0` is empty, so `FAULT = NoProgramEntry` (R240). -/
def State.reset : State := State.resetWith RunConfig.default

end Sys2Proof.Machine
end

