-- ==== Sys2Proof/Machine/Flags.lean ====
section
/-!
DEFINITION. The condition flags: what an accumulator write computes (spec/10_state.md R14) and the eight conditions read
from them (R16).
-/
namespace Sys2Proof.Machine

/-- The flags an accumulator write of the exact integer `V` leaves, `oldA` being the accumulator before it (R14). -/
def accFlags (V : Int) (oldA : Byte) : Flags :=
  { c := decide (V > 255), n := decide (V < 0), z := decide (V = 0), p := oldA.getLsbD 0 }

/-- `cond(c)` (R16): the four flags, and their complements, which are not stored. -/
def Flags.holds (f : Flags) : Cond → Bool
  | .c => f.c
  | .n => f.n
  | .z => f.z
  | .p => f.p
  | .nc => !f.c
  | .nn => !f.n
  | .nz => !f.z
  | .np => !f.p

end Sys2Proof.Machine
end

