-- ==== Sys2Proof/Machine/Operands.lean ====
section
/-!
DEFINITION. The operand forms: a register read and written by number (spec/10_state.md R11, R12, R14) and the composite
address of an address-forming instruction (44_control_transfer.md R150) with its split (20_memory.md R41).
-/
namespace Sys2Proof.Machine

/-- `x[i]` (R11): number 0 reads the accumulator, the others a general register. -/
def State.x (s : State) : Reg → Byte
  | .acc => s.a
  | .r1 => s.r1
  | .r2 => s.r2
  | .r3 => s.r3
  | .r4 => s.r4
  | .r5 => s.r5
  | .r6 => s.r6
  | .r7 => s.r7

/-- `WriteAcc(V)` (R14): the flags from the exact integer, the accumulator from `V mod 256`. -/
def State.writeAcc (s : State) (V : Int) : State :=
  { s with a := BitVec.ofInt 8 V, flags := accFlags V s.a }

/-- Write register number `i` with the integer result `V` (R12): number 0 is `WriteAcc(V)`; a general register receives
`V mod 256` and no flag changes. -/
def State.writeReg (s : State) (r : Reg) (V : Int) : State :=
  match r with
  | .acc => s.writeAcc V
  | .r1 => { s with r1 := BitVec.ofInt 8 V }
  | .r2 => { s with r2 := BitVec.ofInt 8 V }
  | .r3 => { s with r3 := BitVec.ofInt 8 V }
  | .r4 => { s with r4 := BitVec.ofInt 8 V }
  | .r5 => { s with r5 := BitVec.ofInt 8 V }
  | .r6 => { s with r6 := BitVec.ofInt 8 V }
  | .r7 => { s with r7 := BitVec.ofInt 8 V }

/-- `x[i] <- v` for an 8-bit value `v` (R12). -/
def State.setReg (s : State) (r : Reg) (v : Byte) : State := s.writeReg r (v.toNat : Int)

/-- The page part of a packed address, `addr >> 5` (R41). -/
def pageOf (addr : Byte) : PageNum := (addr >>> 5).setWidth 3

/-- The line part of a packed address, `addr & 0x1F` (R41). -/
def lineOf (addr : Byte) : Nat := (addr &&& 0x1F#8).toNat

/-- The address `ComposeAddr(b)` returns (R150): `PTR | FWDB | b`, `FWDB` on bit 0. -/
def State.composedAddr (s : State) (b : Byte) : Byte := s.ptr ||| (if s.fwdb then 1#8 else 0#8) ||| b

/-- The state `ComposeAddr(b)` leaves (R150): both address modifiers consumed. -/
def State.clearModifiers (s : State) : State := { s with ptr := 0#8, fwdb := false }

end Sys2Proof.Machine
end

