-- ==== Sys2Proof/Machine/Ops.lean ====
section
/-!
DEFINITION. The named operations every instruction is built from: advancing and transferring (spec/40_cycle_and_nop.md
R96, 44_control_transfer.md R151), the two stacks (10_state.md R19), the two cache controllers and the data access
primitives (20_memory.md R45 to R53), the port interface (46_ports.md R180), the segment registers with their
invalidation (20_memory.md R51), raising a fatal condition (60_exceptions.md R210), and taking and leaving the one trap
(47_privilege_mmu.md R190, R198).
-/
namespace Sys2Proof.Machine

/-- Complete an instruction that does not set the program counter: `LINE <- LINE + 1` (R96) and back to `Fetch` (R94; "advance
program counter ... → return to Fetch"). -/
def State.advance (s : State) : State := { s with line := s.line + 1, eu := .fetch }

/-- Complete an instruction that sets the line counter itself (R96), back to `Fetch` (R94). -/
def State.goto (s : State) (line : Nat) : State := { s with line := line, eu := .fetch }

/-- The numeric code of a fatal condition (60_exceptions.md R211). -/
def Fatal.code : Fatal → Nat
  | .undecodableInstruction => 1
  | .unmappedSyscall => 2
  | .nestedKernelCall => 3
  | .kernelEntryUnconfigured => 4
  | .noProgramEntry => 5

/-- The code `FAULT` shows, or none (10_state.md R30, 60_exceptions.md R211). -/
def State.faultCode (s : State) : Option Nat := s.fault.map Fatal.code

/-- `raise Fatal(code)` (R210): `FAULT` takes the code and nothing else changes. -/
def State.raise (s : State) (code : Fatal) : State := { s with fault := some code }

/-- `halt` (60_exceptions.md R216): `HALTED` is set and nothing else changes. -/
def State.halt (s : State) : State := { s with halted := true }

/-- `Push(PSTACK, v)` (R19). -/
def State.pushP (s : State) (v : Byte) : State := { s with pstack := v :: s.pstack }

/-- `Push(CSTACK, v)` (R19). -/
def State.pushC (s : State) (v : Byte) : State := { s with cstack := v :: s.cstack }

/-- The value `Pop` yields: the top, or 0 when the stack is empty (R19). -/
def topOf (stack : List Byte) : Byte := stack.headD 0#8

/-- `PSTACK` after a `Pop`: its top removed; an empty stack stays empty (R19). -/
def State.dropP (s : State) : State := { s with pstack := s.pstack.tail }

/-- `CSTACK` after a `Pop`: its top removed; an empty stack stays empty (R19). -/
def State.dropC (s : State) : State := { s with cstack := s.cstack.tail }

/-- The instruction slot hits `(seg, page)` (R45). -/
def ISlot.hits (sl : ISlot) (seg : Segment) (page : PageNum) : Bool :=
  sl.valid && sl.seg == seg && sl.page == page

/-- The data slot hits `(seg, page)` (R45). -/
def DSlot.hits (sl : DSlot) (seg : Segment) (page : PageNum) : Bool :=
  sl.valid && sl.seg == seg && sl.page == page

/-- `ICacheCtl(seg, page)` (R46): nothing on a hit; otherwise the slot becomes a valid clone of the page. -/
def State.icacheCtl (s : State) (seg : Segment) (page : PageNum) : State :=
  if s.islot.hits seg page then s
  else { s with islot := { seg := seg, page := page, valid := true, lines := s.store.clone seg page } }

/-- The write-back step of `DCacheCtl` (R47): a dirty data slot goes to `STORE` under the slot's OWN address. -/
def State.writeBack (s : State) : State :=
  if s.dslot.dirty then
    { s with
      store := s.store.put s.dslot.seg s.dslot.page s.dslot.lines
      events := s.events ++ [.writeBack s.dslot.seg s.dslot.page] }
  else s

/-- The clone step of `DCacheCtl` (R47): the slot becomes a valid clean clone of the page. -/
def State.loadData (s : State) (seg : Segment) (page : PageNum) : State :=
  { s with dslot := { seg := seg, page := page, valid := true, dirty := false, lines := s.store.clone seg page } }

/-- `DCacheCtl(seg, page)` (R47): nothing on a hit; otherwise write back, then clone. -/
def State.dcacheCtl (s : State) (seg : Segment) (page : PageNum) : State :=
  if s.dslot.hits seg page then s else s.writeBack.loadData seg page

/-- `DSEG`, the effective data segment (R50): `KDS`, else `DS`, else `ISEG`. -/
def State.dseg (s : State) : Segment :=
  match s.kds with
  | some k => k
  | none =>
    match s.ds with
    | some d => d
    | none => s.iseg

/-- The data slot made resident for a packed address (R52, R53). -/
def State.touch (s : State) (addr : Byte) : State := s.dcacheCtl s.dseg (pageOf addr)

/-- The byte `MemRead(addr, 1)` yields once the page is resident: the line, or 0 where it is absent (R52). -/
def State.residentByte (s : State) (addr : Byte) : Byte := (s.dslot.lines.get (lineOf addr)).getD 0#8

/-- The write of `MemWrite(addr, 1, v)` once the page is resident: the line becomes present, the slot dirty (R53). -/
def State.writeLine (s : State) (addr : Byte) (v : Byte) : State :=
  { s with dslot := { s.dslot with lines := s.dslot.lines.set (lineOf addr) v, dirty := true } }

/-- `MemWrite(addr, 1, v)` (R53). -/
def State.memWrite (s : State) (addr : Byte) (v : Byte) : State := (s.touch addr).writeLine addr v

/-- Control transfer to a packed address (R151): `ICacheCtl(ISEG, page)`, then `LINE <- line`. -/
def State.transfer (s : State) (addr : Byte) : State := (s.icacheCtl s.iseg (pageOf addr)).goto (lineOf addr)

/-- Write `ISEG`, which clears `ISLOT.valid` and nothing else of the slot (R51). -/
def State.setIseg (s : State) (seg : Segment) : State := { s with iseg := seg, islot := { s.islot with valid := false } }

/-- Write `DS`, which clears `DSLOT.valid` and nothing else of the slot (R51). -/
def State.setDs (s : State) (seg : Segment) : State := { s with ds := some seg, dslot := { s.dslot with valid := false } }

/-- Write or clear `KDS`, which clears `DSLOT.valid` and nothing else of the slot (R51). -/
def State.setKds (s : State) (seg : Option Segment) : State := { s with kds := seg, dslot := { s.dslot with valid := false } }

/-- Write `MODE` (10_state.md R28). -/
def State.setMode (s : State) (m : Mode) : State := { s with mode := m }

/-- Write `PID` (10_state.md R27). -/
def State.setPid (s : State) (v : Byte) : State := { s with pid := v }

/-- The device a list of port entries has at `p` (46_ports.md R180, R185). -/
def deviceIn : List PortEntry → PortAddr → Option DeviceKind
  | [], _ => none
  | e :: rest, p => if e.port = p then some e.kind else deviceIn rest p

/-- Whether `PORT_MAP` has a device at `p` (46_ports.md R180). -/
def State.hasDevice (s : State) (p : PortAddr) : Bool := (deviceIn s.cfg.portMap p).isSome

/-- `PortStore(p, v)` (46_ports.md R180): an event when a device is there, otherwise nothing. -/
def State.portStore (s : State) (p : PortAddr) (v : Byte) : State :=
  if s.hasDevice p then { s with events := s.events ++ [.portStore p v] } else s

/-- The oracle's answer to the next port load that reaches a device (46_ports.md R180): the next one listed for the run,
and a free value once none is listed (log 4). -/
def State.portAnswer (s : State) : Byte :=
  match s.portAnswers with
  | v :: _ => v
  | [] => Config.freePortAnswer s.portLoads

/-- The state a `PortLoad(p)` that reached a device leaves: its event recorded, the answer used up (46_ports.md R180). -/
def State.portLoaded (s : State) (p : PortAddr) : State :=
  { s with
    events := s.events ++ [.portLoad p s.portAnswer]
    portAnswers := s.portAnswers.tail
    portLoads := s.portLoads + 1 }

/-- The entry a syscall table has for a number (47_privilege_mmu.md R197). -/
def syscallIn : List SyscallEntry → Byte → Option SyscallEntry
  | [], _ => none
  | e :: rest, n => if e.number = n then some e else syscallIn rest n

/-- TAKING THE TRAP (47_privilege_mmu.md R190, 60_exceptions.md R222): push the number on `PSTACK`, enter kernel mode, set
`ISEG`, reload the instruction slot, go to the configured line. Nothing else is saved or changed. -/
def State.enterKernel (s : State) (e : EntryPoint) (n : SysNum) : State :=
  ((((s.pushP (n.setWidth 8)).setMode .kernel).setIseg e.seg).icacheCtl e.seg e.page).goto e.line.toNat

/-- LEAVING KERNEL MODE (47_privilege_mmu.md R198): application mode, `KDS` cleared, `DSLOT` invalidated. There is no
return-from-trap instruction; the software sequence is `MMU 0`, `MMU 5`, `RET` (60_exceptions.md R223). -/
def State.exitKernel (s : State) : State := (s.setMode .application).setKds none

end Sys2Proof.Machine
end

