-- ==== Sys2Proof/Machine/Access.lean ====
section
/-!
DEFINITION. Meanings of the memory access instructions (spec/45_memory_access.md R170, R171).
-/
namespace Sys2Proof.Machine

/-- `MLD r, b`: the composite address, `MemRead`, `x[r] <- v` (R170). -/
def execMld (r : Reg) (b : Byte) (s : State) : Host.Outcome State Fault Refusal :=
  let t := s.clearModifiers.touch (s.composedAddr b)
  .next (t.setReg r (t.residentByte (s.composedAddr b))).advance

/-- `MST r, b`: the composite address, `MemWrite` of `x[r]` (R171). -/
def execMst (r : Reg) (b : Byte) (s : State) : Host.Outcome State Fault Refusal :=
  .next (s.clearModifiers.memWrite (s.composedAddr b) (s.x r)).advance

end Sys2Proof.Machine
end

