-- ==== Sys2Proof/Machine/Alu.lean ====
section
/-!
DEFINITION. Meanings of the ALU instructions (spec/42_alu.md R120 to R130): every result is computed exactly as an integer,
the flags come from it, and the stored value is the result mod 256 (R131).
-/
namespace Sys2Proof.Machine

/-- `ADD r`: `V <- A + x[r] + CMOD`, `CMOD <- 0`, `WriteAcc(V)` (R121). -/
def execAdd (r : Reg) (s : State) : Host.Outcome State Fault Refusal :=
  .next ({ s with cmod := false }.writeAcc (s.a.toNat + (s.x r).toNat + s.cmod.toNat : Int)).advance

/-- `SUB r`: `V <- A - x[r]`, `WriteAcc(V)`; `CMOD` is neither read nor cleared (R122). -/
def execSub (r : Reg) (s : State) : Host.Outcome State Fault Refusal :=
  .next (s.writeAcc (s.a.toNat - (s.x r).toNat : Int)).advance

/-- `AND r`: `WriteAcc(A & x[r])` (R123). -/
def execAnd (r : Reg) (s : State) : Host.Outcome State Fault Refusal := .next (s.setReg .acc (s.a &&& s.x r)).advance

/-- `IOR r`: `WriteAcc(A | x[r])` (R124). -/
def execIor (r : Reg) (s : State) : Host.Outcome State Fault Refusal := .next (s.setReg .acc (s.a ||| s.x r)).advance

/-- `XOR r`: `WriteAcc(A ^ x[r])` (R125). -/
def execXor (r : Reg) (s : State) : Host.Outcome State Fault Refusal := .next (s.setReg .acc (s.a ^^^ s.x r)).advance

/-- `INC r`: `V <- x[r] + 1` in place (R126). -/
def execInc (r : Reg) (s : State) : Host.Outcome State Fault Refusal :=
  .next (s.writeReg r ((s.x r).toNat + 1 : Int)).advance

/-- `DEC r`: `V <- x[r] - 1` in place (R127). -/
def execDec (r : Reg) (s : State) : Host.Outcome State Fault Refusal :=
  .next (s.writeReg r ((s.x r).toNat - 1 : Int)).advance

/-- `NEG r`: `V <- 0 - x[r]` in place (R128). -/
def execNeg (r : Reg) (s : State) : Host.Outcome State Fault Refusal :=
  .next (s.writeReg r (0 - (s.x r).toNat : Int)).advance

/-- `RSH r`: `V <- x[r] >> 1` in place (R129). -/
def execRsh (r : Reg) (s : State) : Host.Outcome State Fault Refusal := .next (s.setReg r (s.x r >>> 1)).advance

/-- `CRY`: `CMOD <- 1` (R130). -/
def execCry (s : State) : Host.Outcome State Fault Refusal := .next { s with cmod := true }.advance

end Sys2Proof.Machine
end

