-- ==== Sys2Proof/Machine/Control.lean ====
section
/-!
DEFINITION. Meanings of the address modifiers and of control transfer (spec/44_control_transfer.md R152 to R157).
-/
namespace Sys2Proof.Machine

/-- `POI r`: `PTR <- x[r]` (R152). -/
def execPoi (r : Reg) (s : State) : Host.Outcome State Fault Refusal := .next { s with ptr := s.x r }.advance

/-- `FWD`: `FWDB <- C` (R153). -/
def execFwd (s : State) : Host.Outcome State Fault Refusal := .next { s with fwdb := s.flags.c }.advance

/-- `JMP b`: transfer to the composite address (R154). -/
def execJmp (b : Byte) (s : State) : Host.Outcome State Fault Refusal :=
  .next (s.clearModifiers.transfer (s.composedAddr b))

/-- The return address `CAL` pushes (R155): `((ISLOT.page << 5) | LINE) + 1` mod 256, `LINE` being the secondary byte's
line. -/
def State.returnAddr (s : State) : Byte := BitVec.ofNat 8 ((s.islot.page.toNat <<< 5 ||| s.line) + 1)

/-- `CAL b`: push the return address, transfer to the composite address (R155). -/
def execCal (b : Byte) (s : State) : Host.Outcome State Fault Refusal :=
  .next ((s.clearModifiers.pushC s.returnAddr).transfer (s.composedAddr b))

/-- `BRH c, b`: the modifiers are consumed; transfer if the condition holds, else advance (R156). -/
def execBrh (cc : Cond) (b : Byte) (s : State) : Host.Outcome State Fault Refusal :=
  if s.flags.holds cc then .next (s.clearModifiers.transfer (s.composedAddr b)) else .next s.clearModifiers.advance

/-- `RET`: transfer to the popped packed address; `PTR` and `FWDB` are not used (R157). -/
def execRet (s : State) : Host.Outcome State Fault Refusal := .next (s.dropC.transfer (topOf s.cstack))

end Sys2Proof.Machine
end

