-- ==== Sys2Proof/Machine/Move.lean ====
section
/-!
DEFINITION. Meanings of `NOP` (spec/40_cycle_and_nop.md R100) and of the data movement instructions
(41_data_movement.md R110 to R112).
-/
namespace Sys2Proof.Machine

/-- `NOP` (R100). -/
def execNop (s : State) : Host.Outcome State Fault Refusal := .next s.advance

/-- `IMM r, b`: `x[r] <- b` (R110). -/
def execImm (r : Reg) (b : Byte) (s : State) : Host.Outcome State Fault Refusal := .next (s.setReg r b).advance

/-- `AST r`: `WriteAcc(x[r])` (R111). -/
def execAst (r : Reg) (s : State) : Host.Outcome State Fault Refusal := .next (s.setReg .acc (s.x r)).advance

/-- `RST r`: `x[r] <- A` (R112). -/
def execRst (r : Reg) (s : State) : Host.Outcome State Fault Refusal := .next (s.setReg r s.a).advance

end Sys2Proof.Machine
end

