-- ==== Sys2Proof/Machine/Port.lean ====
section
/-!
DEFINITION. Meanings of the port instructions (spec/46_ports.md R181, R182).
-/
namespace Sys2Proof.Machine

/-- `PST p`: `PortStore(p, A)`; a silent no-op where no device is (R181). -/
def execPst (p : PortAddr) (s : State) : Host.Outcome State Fault Refusal := .next (s.portStore p s.a).advance

/-- `PLD p`: `WriteAcc(PortLoad(p))` where a device is; otherwise `A` and the flags keep their values (R182). -/
def execPld (p : PortAddr) (s : State) : Host.Outcome State Fault Refusal :=
  if s.hasDevice p then .next ((s.portLoaded p).setReg .acc s.portAnswer).advance else .next s.advance

end Sys2Proof.Machine
end

