-- ==== Sys2Proof/Machine/Privilege.lean ====
section
/-!
DEFINITION. Meanings of the kernel call and of the privileged MMU instruction with its eight sub-operations
(spec/47_privilege_mmu.md R190 to R200).
-/
namespace Sys2Proof.Machine

/-- `ENT n` (R190): fatal in kernel mode, then fatal without a configured entry, else the trap is taken. -/
def execEnt (n : SysNum) (s : State) : Host.Outcome State Fault Refusal :=
  match s.mode with
  | .kernel => .next (s.raise .nestedKernelCall)
  | .application =>
    match s.cfg.kernelEntry with
    | none => .next (s.raise .kernelEntryUnconfigured)
    | some e => .next (s.enterKernel e n)

/-- `MMU 0` in kernel mode (R193): `ISEG <- A`, `ISLOT.valid <- 0`. -/
def mmuIsg (s : State) : State := (s.setIseg s.a).advance

/-- `MMU 1` in kernel mode (R194): `Push(CSTACK, ISEG)`. -/
def mmuPsg (s : State) : State := (s.pushC s.iseg).advance

/-- `MMU 2` in kernel mode (R195): `DS <- A`, `DSLOT.valid <- 0`. -/
def mmuDsg (s : State) : State := (s.setDs s.a).advance

/-- `MMU 3` in kernel mode (R196): `KDS <- A`, `DSLOT.valid <- 0`. -/
def mmuKsg (s : State) : State := (s.setKds (some s.a)).advance

/-- `MMU 4` in kernel mode (R197): the page the syscall table names for `A`, at line 0; fatal when it names none. -/
def mmuLkp (s : State) : State :=
  match syscallIn s.cfg.syscallTable s.a with
  | none => s.raise .unmappedSyscall
  | some e => ((s.setIseg e.seg).icacheCtl e.seg e.page).goto 0

/-- `MMU 5` in kernel mode (R198): leave kernel mode and go on at the next line. -/
def mmuXkm (s : State) : State := s.exitKernel.advance

/-- `MMU 6` in kernel mode (R199): `PID <- A`. -/
def mmuSpi (s : State) : State := (s.setPid s.a).advance

/-- `MMU 7` in kernel mode (R200): `WriteAcc(PID)`. -/
def mmuGpi (s : State) : State := (s.setReg .acc s.pid).advance

/-- `MMU f` (R191): a silent no-op that advances in application mode, the sub-operation in kernel mode. -/
def execMmu (f : MmuOp) (s : State) : Host.Outcome State Fault Refusal :=
  match s.mode with
  | .application => .next s.advance
  | .kernel =>
    match f with
    | .isg => .next (mmuIsg s)
    | .psg => .next (mmuPsg s)
    | .dsg => .next (mmuDsg s)
    | .ksg => .next (mmuKsg s)
    | .lkp => .next (mmuLkp s)
    | .xkm => .next (mmuXkm s)
    | .spi => .next (mmuSpi s)
    | .gpi => .next (mmuGpi s)

end Sys2Proof.Machine
end

