-- ==== Sys2Proof/Machine/Stack.lean ====
section
/-!
DEFINITION. Meanings of the stack instructions (spec/43_stacks.md R140 to R145).
-/
namespace Sys2Proof.Machine

/-- `PPS r`: `Push(PSTACK, x[r])` (R140). -/
def execPps (r : Reg) (s : State) : Host.Outcome State Fault Refusal := .next (s.pushP (s.x r)).advance

/-- `PPL r`: `x[r] <- Pop(PSTACK)` (R141). -/
def execPpl (r : Reg) (s : State) : Host.Outcome State Fault Refusal := .next (s.dropP.setReg r (topOf s.pstack)).advance

/-- `PPI b`: `Push(PSTACK, b)` (R142). -/
def execPpi (b : Byte) (s : State) : Host.Outcome State Fault Refusal := .next (s.pushP b).advance

/-- `CPS r`: `Push(CSTACK, x[r])` (R143). -/
def execCps (r : Reg) (s : State) : Host.Outcome State Fault Refusal := .next (s.pushC (s.x r)).advance

/-- `CPL r`: `x[r] <- Pop(CSTACK)` (R144). -/
def execCpl (r : Reg) (s : State) : Host.Outcome State Fault Refusal := .next (s.dropC.setReg r (topOf s.cstack)).advance

/-- `CPI b`: `Push(CSTACK, b)` (R145). -/
def execCpi (b : Byte) (s : State) : Host.Outcome State Fault Refusal := .next (s.pushC b).advance

end Sys2Proof.Machine
end

