-- ==== Sys2Proof/Machine/Dispatch.lean ====
section
/-!
DEFINITION. Dispatch: `Execute(op, k, b)` of spec/40_cycle_and_nop.md R95, one arm per instruction.
-/
namespace Sys2Proof.Machine

/-- `Execute` (R95): the meaning of each instruction, from the rule 30_encoding.md R76 names for it. -/
def exec (i : Instr) (s : State) : Host.Outcome State Fault Refusal :=
  match i with
  | .nop => Sys2Proof.Machine.execNop s
  | .cry => Sys2Proof.Machine.execCry s
  | .fwd => Sys2Proof.Machine.execFwd s
  | .ret => Sys2Proof.Machine.execRet s
  | .jmp b => Sys2Proof.Machine.execJmp b s
  | .cal b => Sys2Proof.Machine.execCal b s
  | .ppi b => Sys2Proof.Machine.execPpi b s
  | .cpi b => Sys2Proof.Machine.execCpi b s
  | .imm r b => Sys2Proof.Machine.execImm r b s
  | .ast r => Sys2Proof.Machine.execAst r s
  | .rst r => Sys2Proof.Machine.execRst r s
  | .inc r => Sys2Proof.Machine.execInc r s
  | .dec r => Sys2Proof.Machine.execDec r s
  | .neg r => Sys2Proof.Machine.execNeg r s
  | .rsh r => Sys2Proof.Machine.execRsh r s
  | .add r => Sys2Proof.Machine.execAdd r s
  | .sub r => Sys2Proof.Machine.execSub r s
  | .and r => Sys2Proof.Machine.execAnd r s
  | .ior r => Sys2Proof.Machine.execIor r s
  | .xor r => Sys2Proof.Machine.execXor r s
  | .pps r => Sys2Proof.Machine.execPps r s
  | .ppl r => Sys2Proof.Machine.execPpl r s
  | .cps r => Sys2Proof.Machine.execCps r s
  | .cpl r => Sys2Proof.Machine.execCpl r s
  | .poi r => Sys2Proof.Machine.execPoi r s
  | .brh cc b => Sys2Proof.Machine.execBrh cc b s
  | .mld r b => Sys2Proof.Machine.execMld r b s
  | .mst r b => Sys2Proof.Machine.execMst r b s
  | .mmu f => Sys2Proof.Machine.execMmu f s
  | .pst p => Sys2Proof.Machine.execPst p s
  | .pld p => Sys2Proof.Machine.execPld p s
  | .ent n => Sys2Proof.Machine.execEnt n s

end Sys2Proof.Machine
end

