-- ==== Sys2Proof/Machine/Cycle.lean ====
section
/-!
DEFINITION. The tick of spec/40_cycle_and_nop.md (R90 to R99): fetching from the instruction slot, the `Fetch` and `Await`
states, the clean halt and the undecodable byte; and placing an instruction where the next tick runs it.
-/
namespace Sys2Proof.Machine

/-- A tick does nothing: `HALTED = 1` or `FAULT` is not none (R90). -/
def State.frozen (s : State) : Bool := s.halted || s.fault.isSome

/-- The statement at `LINE` of the instruction slot; none past line 31 or where the line is absent (R91). -/
def State.fetchByte (s : State) : Option Byte := if s.line ≤ 31 then s.islot.lines.get s.line else none

/-- First tick of a two-byte instruction (R93): hold the decoded first byte and advance without executing. -/
def State.holdFirst (s : State) (op : Opcode) (k : Operand) : State := { s with eu := .await op k, line := s.line + 1 }

/-- `TickFetch(b)` (R93). -/
def tickFetch (b : Byte) (s : State) : Host.Outcome State Fault Refusal :=
  match decodeByte b with
  | none => .next (s.raise .undecodableInstruction)
  | some (op, k) => if op.hasSecondary then .next (s.holdFirst op k) else exec (op.instr k 0#8) s

/-- `TickAwait(op, k, b)` (R94): the byte is the argument, not decoded; completing the instruction returns to `Fetch`. -/
def tickAwait (op : Opcode) (k : Operand) (b : Byte) (s : State) : Host.Outcome State Fault Refusal :=
  exec (op.instr k b) s

/-- `Tick()` (R90, R91), its checks in the order of R97. -/
def tick (s : State) : Host.Outcome State Fault Refusal :=
  if s.frozen then .next s
  else
    match s.fetchByte with
    | none => .next s.halt
    | some b =>
      match s.eu with
      | .fetch => tickFetch b s
      | .await op k => tickAwait op k b s

/-- Place a one-byte instruction at line `base` of the instruction slot, ready to be fetched (log 9). -/
def State.placeOne (s : State) (base : Nat) (b : Byte) : State :=
  { s with
    islot := { s.islot with lines := s.islot.lines.set base b }
    line := base, eu := .fetch, halted := false, fault := none }

/-- Place a two-byte instruction at lines `base`, `base + 1` of the instruction slot, its first byte already taken by the
tick before, so that the next tick fetches the secondary byte and executes (R93, R94; log 9). -/
def State.placeTwo (s : State) (base : Nat) (b b2 : Byte) (op : Opcode) (k : Operand) : State :=
  { s with
    islot := { s.islot with lines := (s.islot.lines.set base b).set (base + 1) b2 }
    line := base + 1, eu := .await op k, halted := false, fault := none }

/-- Place the instruction whose bytes are `b`, `b2` at `LINE` (at line 0 where it would not fit in the page) (log 9). -/
def State.place (s : State) (b b2 : Byte) : State :=
  match decodeByte b with
  | some (op, k) =>
    if op.hasSecondary then s.placeTwo (if s.line + 1 ≤ 31 then s.line else 0) b b2 op k
    else s.placeOne (if s.line ≤ 31 then s.line else 0) b
  | none => s.placeOne (if s.line ≤ 31 then s.line else 0) b

end Sys2Proof.Machine
end

