-- ==== Sys2Proof/Machine/Step.lean ====
section
/-!
DEFINITION. The step: one tick (spec/00_scope.md R1, 40_cycle_and_nop.md R91).
-/
namespace Sys2Proof.Machine

/-- One step of the machine is one tick of the execution unit (R1). -/
def step (s : State) : Host.Outcome State Fault Refusal := tick s

/-- `s` with the instruction whose bits are `w` (numbered as spec/opcode_table.json numbers them, every bit at or above
`nbits` being 0) stored where the very next step fetches and runs it (log 9). -/
def State.withFetchWord (s : State) (nbits w : Nat) : State :=
  s.place (BitVec.ofNat 8 (w % 2 ^ nbits)) (BitVec.ofNat 8 (w % 2 ^ nbits / 256))

end Sys2Proof.Machine
end

