-- ==== Sys2Proof/WellFormed.lean ====
section
/-!
DEFINITION. What is well formed: an instruction whose operand fits its opcode (spec/30_encoding.md R74; every `Instr` is,
since its operand types are the opcode's widths), and a launch configuration within the architected widths
(00_scope.md R3, 46_ports.md R185; 93_implementation_defined.md U8).
-/
namespace Sys2Proof

/-- The operand fits the opcode's width, and a zero-width opcode has operand 0 (R74). -/
def Instr.wf (i : Instr) : Bool := i.opcode.fits i.operand.toNat

/-- An integer in `0..hi`. -/
def inRange (hi x : Int) : Bool := decide (0 ≤ x) && decide (x ≤ hi)

/-- No element is listed twice. -/
def allDistinct {α : Type} [DecidableEq α] : List α → Bool
  | [] => true
  | x :: rest => !rest.elem x && allDistinct rest

/-- `KERNEL_ENTRY` names a segment in 0..255, a page in 0..7 and a line in 0..31 (R3). -/
def entryOk : Option (Int × Int × Int) → Bool
  | none => true
  | some (s, g, l) => inRange 255 s && inRange 7 g && inRange 31 l

/-- Each syscall number is in 0..255, its segment in 0..255 and its page in 0..7 (R3; the keys are 0..255 by 00_scope.md
section 4). -/
def syscallOk (e : Int × Int × Int) : Bool := inRange 255 e.1 && inRange 255 e.2.1 && inRange 7 e.2.2

/-- A page's address is in range and each of its lines is a line number with a byte value (R3). -/
def RawPage.ok (pg : RawPage) : Bool :=
  inRange 255 pg.seg && inRange 7 pg.page && pg.lines.all fun l => inRange 31 l.1 && inRange 255 l.2

/-- A device's range stays within addresses 0..15 (R185); the first address a device names is itself a port
(93_implementation_defined.md U8), also where its range is empty (DESIGN CHOICE, log 15). -/
def RawPort.ok (d : RawPort) : Bool :=
  decide (0 ≤ d.first) && decide (d.first ≤ 15) && decide (d.first + d.count ≤ 16)

/-- Two devices share no port address (R185). A range of no address shares none with any other (DESIGN CHOICE, log 15). -/
def RawPort.apart (d e : RawPort) : Bool :=
  decide (d.count = 0) || decide (e.count = 0) || decide (d.first + d.count ≤ e.first) ||
    decide (e.first + e.count ≤ d.first)

/-- No two devices of a list share a port address (R185). -/
def portsApart : List RawPort → Bool
  | [] => true
  | d :: rest => rest.all d.apart && portsApart rest

/-- The partial maps of the configuration list no key twice (log 12). -/
def RawConfig.distinctKeys (c : RawConfig) : Bool :=
  allDistinct (c.syscallTable.map (·.1)) && allDistinct (c.pages.map fun pg => (pg.seg, pg.page)) &&
    c.pages.all fun pg => allDistinct (pg.lines.map (·.1))

/-- A configuration the machine accepts (R3, R185). -/
def RawConfig.wf (c : RawConfig) : Bool :=
  entryOk c.kernelEntry && c.syscallTable.all syscallOk && c.pages.all RawPage.ok && c.ports.all RawPort.ok &&
    portsApart c.ports && c.distinctKeys

end Sys2Proof
end

