-- ==== Sys2Proof/Machine/Launch.lean ====
section
/-!
DEFINITION. Launching a run: a configuration out of range is refused, any other is put into the machine's widths and reset
takes it (spec/00_scope.md R3, 46_ports.md R185, 70_reset_and_hazards.md R240).
-/
namespace Sys2Proof.Machine

/-- A page's lines as the machine holds them. -/
def linesOfRaw : List (Int × Int) → Memory
  | [] => []
  | (l, v) :: rest => (linesOfRaw rest).set l.toNat (BitVec.ofInt 8 v)

/-- `STORE0` from the host's pages (70_reset_and_hazards.md R244). -/
def storeOfRaw : List RawPage → Store
  | [] => Store.empty
  | pg :: rest => (storeOfRaw rest).put (BitVec.ofInt 8 pg.seg) (BitVec.ofInt 3 pg.page) (linesOfRaw pg.lines)

/-- `PORT_MAP` from the device ranges, one entry per port address (46_ports.md R185). -/
def portsOfRaw : List RawPort → List PortEntry
  | [] => []
  | d :: rest =>
    (List.range d.count).map (fun i => { port := BitVec.ofInt 4 (d.first + i), kind := d.kind }) ++ portsOfRaw rest

/-- `KERNEL_ENTRY` as the machine holds it. -/
def entryOfRaw (e : Int × Int × Int) : EntryPoint :=
  { seg := BitVec.ofInt 8 e.1, page := BitVec.ofInt 3 e.2.1, line := BitVec.ofInt 5 e.2.2 }

/-- One `SYSCALL_TABLE` entry as the machine holds it. -/
def syscallOfRaw (e : Int × Int × Int) : SyscallEntry :=
  { number := BitVec.ofInt 8 e.1, seg := BitVec.ofInt 8 e.2.1, page := BitVec.ofInt 3 e.2.2 }

/-- The run's configuration, for a launch configuration in range (R240). -/
def runOfRaw (c : RawConfig) : RunConfig :=
  { params :=
      { kernelEntry := c.kernelEntry.map entryOfRaw
        syscallTable := c.syscallTable.map syscallOfRaw
        portMap := portsOfRaw c.ports }
    store0 := storeOfRaw c.pages
    resetMode := c.resetMode }

/-- Launch: refused when out of range (R3, R185), otherwise reset on the configuration (R240). -/
def launch (c : RawConfig) : Host.Outcome State Fault Refusal :=
  if c.wf then .next (State.resetWith (runOfRaw c)) else .refused .badConfiguration

end Sys2Proof.Machine
end

