-- ==== Sys2Proof/Safety.lean ====
section
/-!
DEFINITION. The terms statements about the machine are made in: a running machine, the bytes memory finally holds
(spec/70_reset_and_hazards.md R245), the invariant every step keeps, how many ticks a first byte takes, and what it means
that a register was written and nothing else.
-/
namespace Sys2Proof.Machine

/-- The machine runs: neither halted nor in a fatal condition (40_cycle_and_nop.md R90). -/
abbrev State.running (s : State) : Prop := s.halted = false ∧ s.fault = none

/-- A first byte that starts a one-byte instruction: in `Fetch`, the one tick that fetches it executes the instruction
(40_cycle_and_nop.md R93, R98). -/
def OneTick (first : Byte) (i : Instr) : Prop :=
  ∀ s : State, s.running → s.eu = .fetch → s.fetchByte = some first → step s = exec i s

/-- A first byte that starts a two-byte instruction: in `Fetch`, the tick that fetches it only holds it and advances; in the
`Await` state this leaves, the tick that fetches any byte `b` executes the instruction with argument `b`
(40_cycle_and_nop.md R93, R94, R98). -/
def TwoTicks (first : Byte) (i : Byte → Instr) : Prop :=
  ∃ op k,
    (∀ s : State, s.running → s.eu = .fetch → s.fetchByte = some first →
      step s = .next { s with eu := .await op k, line := s.line + 1 }) ∧
    ∀ (s : State) (b : Byte), s.running → s.eu = .await op k → s.fetchByte = some b → step s = exec (i b) s

/-- `t` is `s` after the integer result `V` went to register number `r` and the instruction completed by advancing
(10_state.md R12, R14): for the accumulator with all four flags from the exact `V`, for a general register with no flag;
nothing else changes. -/
def RegWritten (r : Reg) (V : Int) (s t : State) : Prop :=
  (r = .acc →
    t = { s with
      a := BitVec.ofInt 8 V
      flags := { c := decide (V > 255), n := decide (V < 0), z := decide (V = 0), p := s.a.getLsbD 0 }
      line := s.line + 1, eu := .fetch }) ∧
  (r ≠ .acc →
    t.x r = BitVec.ofInt 8 V ∧ (∀ q, q ≠ r → t.x q = s.x q) ∧
    t = { s with
      r1 := t.r1, r2 := t.r2, r3 := t.r3, r4 := t.r4, r5 := t.r5, r6 := t.r6, r7 := t.r7
      line := s.line + 1, eu := .fetch })

/-- The byte memory holds at a line: the dirty data slot's line where the slot holds that page, else the canonical
store's; none where no statement is present (70_reset_and_hazards.md R245). -/
def State.memByte (s : State) (seg : Segment) (page : PageNum) (line : LineNum) : Option Byte :=
  if s.dslot.dirty = true ∧ s.dslot.seg = seg ∧ s.dslot.page = page then s.dslot.lines.get line.toNat
  else s.store.get seg page line.toNat

/-- The first byte a machine in `Await` holds is the one that stands just before `LINE` in the instruction slot, and it
has a secondary byte (10_state.md R29, 40_cycle_and_nop.md R99). -/
def State.heldByteStands (s : State) : Prop :=
  ∀ op k, s.eu = .await op k →
    op.hasSecondary = true ∧ 1 ≤ s.line ∧ (s.islot.lines.get (s.line - 1)).bind decodeByte = some (op, k)

/-- The invariant of the machine, kept by every step. -/
structure State.Inv (s : State) : Prop where
  /-- the canonical store is in canonical form -/
  store_wf : s.store.wf = true
  /-- the instruction slot's lines are in canonical form, numbered 0..31 (10_state.md R21) -/
  islot_wf : s.islot.lines.wfLines = true
  /-- the data slot's lines are in canonical form, numbered 0..31 (10_state.md R21) -/
  dslot_wf : s.dslot.lines.wfLines = true
  /-- `LINE` is in 0..32 (10_state.md R20) -/
  line_le : s.line ≤ 32
  /-- a valid instruction slot belongs to the instruction segment (47_privilege_mmu.md R202) -/
  fetch_segment : s.islot.valid = true → s.islot.seg = s.iseg
  /-- the kernel data override is set in kernel mode only (10_state.md R33) -/
  kernel_override : s.kds ≠ none → s.mode = .kernel
  /-- a valid clean data slot is a true clone of its page (20_memory.md R44) -/
  clean_clone : s.dslot.valid = true → s.dslot.dirty = false → s.dslot.lines = s.store.clone s.dslot.seg s.dslot.page
  /-- a dirty data slot holds at least one statement (20_memory.md R53) -/
  dirty_lines : s.dslot.dirty = true → s.dslot.lines ≠ []
  /-- a held first byte stands before `LINE` -/
  held : s.heldByteStands

end Sys2Proof.Machine
end

