-- ==== Sys2Proof/Certificates/Slice0/Obligations.lean ====
section
/-!
DEFINITION. The statements for the provers, from the numbered rules of spec/. "D<n>" in a docstring names the row of
spec/92_eei_decisions.md the cited rule itself rests on; "log <n>" names a choice of this model.
-/
open Sys2Proof Sys2Proof.Machine

/-! ### Reset and launch -/

/-- R241 (D126): the value reset leaves in every item of the table, for every run configuration; `ISLOT` where `STORE0` has a
page `(0, 0)`, line by line; and the mode is kernel by default. -/
def Obligations.ResetLeavesSpecValues : Prop :=
  (∀ cfg : RunConfig,
    let t := State.resetWith cfg
    (∀ r, t.x r = 0#8) ∧ t.flags = ⟨false, false, false, false⟩ ∧ t.cmod = false ∧ t.fwdb = false ∧ t.ptr = 0#8 ∧
    t.pstack = [] ∧ t.cstack = [] ∧ t.line = 0 ∧
    t.dslot.valid = false ∧ t.dslot.dirty = false ∧ (∀ l, t.dslot.lines.get l = none) ∧ t.dslot.seg = 0#8 ∧ t.dslot.page = 0#3 ∧
    t.store = cfg.store0 ∧ t.iseg = 0#8 ∧ t.ds = none ∧ t.kds = none ∧ t.pid = 0#8 ∧ t.mode = cfg.resetMode ∧ t.eu = .fetch ∧
    t.halted = false ∧
    (cfg.store0.isMapped 0#8 0#3 = true →
      t.fault = none ∧ t.islot.seg = 0#8 ∧ t.islot.page = 0#3 ∧ t.islot.valid = true ∧
      ∀ l : LineNum, t.islot.lines.get l.toNat = cfg.store0.get 0#8 0#3 l.toNat) ∧
    (cfg.store0.isMapped 0#8 0#3 = false → t.fault = some .noProgramEntry)) ∧
  State.reset.mode = .kernel

/-- R240 (D126): with no page at `(0, 0)` the fault code is set and no tick changes anything; a page `(0, 0)` without a
statement at line 0 is no fault: the first tick halts cleanly. -/
def Obligations.FirstTickAfterReset : Prop :=
  ∀ cfg : RunConfig,
    (cfg.store0.isMapped 0#8 0#3 = false → step (State.resetWith cfg) = .next (State.resetWith cfg)) ∧
    (cfg.store0.isMapped 0#8 0#3 = true → cfg.store0.get 0#8 0#3 0 = none →
      step (State.resetWith cfg) = .next { State.resetWith cfg with halted := true })

/-- R3 (D136): a launch configuration that names a segment outside 0..255, a page outside 0..7 or a line outside 0..31, or
whose pages hold a value outside 0..255, is refused. -/
def Obligations.ConfigurationOutOfRangeRefused : Prop :=
  ∀ c : RawConfig,
    ((∃ s g l, c.kernelEntry = some (s, g, l) ∧ ¬((0 ≤ s ∧ s ≤ 255) ∧ (0 ≤ g ∧ g ≤ 7) ∧ (0 ≤ l ∧ l ≤ 31))) ∨
     (∃ e ∈ c.syscallTable, ¬((0 ≤ e.2.1 ∧ e.2.1 ≤ 255) ∧ (0 ≤ e.2.2 ∧ e.2.2 ≤ 7))) ∨
     (∃ pg ∈ c.pages, ¬((0 ≤ pg.seg ∧ pg.seg ≤ 255) ∧ (0 ≤ pg.page ∧ pg.page ≤ 7))) ∨
     (∃ pg ∈ c.pages, ∃ l ∈ pg.lines, ¬((0 ≤ l.1 ∧ l.1 ≤ 31) ∧ (0 ≤ l.2 ∧ l.2 ≤ 255)))) →
    launch c = .refused .badConfiguration

/-- R185 (D125, D136): a launch whose device ranges exceed address 15 or overlap is refused; in an accepted launch a port
has a device exactly when some device's range holds it. The model's choice, log 15: a device with no address, at a port
number, changes nothing. -/
def Obligations.PortRangesResolve : Prop :=
  ∀ c : RawConfig,
    ((∃ d ∈ c.ports, d.first < 0 ∨ 15 < d.first ∨ 16 < d.first + d.count) → launch c = .refused .badConfiguration) ∧
    (∀ pre d mid e post, c.ports = pre ++ d :: (mid ++ e :: post) →
      (∃ a : Int, d.first ≤ a ∧ a < d.first + d.count ∧ e.first ≤ a ∧ a < e.first + e.count) →
      launch c = .refused .badConfiguration) ∧
    (∀ pre d post, c.ports = pre ++ d :: post → d.count = 0 → 0 ≤ d.first → d.first ≤ 15 →
      launch c = launch { c with ports := pre ++ post }) ∧
    (∀ t, launch c = .next t → ∀ p : PortAddr,
      (t.hasDevice p = true ↔ ∃ d ∈ c.ports, d.first ≤ (p.toNat : Int) ∧ (p.toNat : Int) < d.first + d.count))

/-! ### The tick -/

/-- R90: a halted or faulted machine does not change. -/
def Obligations.FrozenTickDoesNothing : Prop :=
  ∀ s : State, (s.halted = true ∨ s.fault ≠ none) → step s = .next s

/-- R92, R216 (D109): at an absent line or past line 31 a running machine halts and changes nothing else, in either `EU`
state; and no other tick of a running machine halts it. -/
def Obligations.AbsentLineHaltsCleanly : Prop :=
  ∀ s : State, s.running →
    ((31 < s.line ∨ s.islot.lines.get s.line = none) → step s = .next { s with halted := true }) ∧
    ∀ t, step s = .next t → t.halted = true → (31 < s.line ∨ s.islot.lines.get s.line = none)

/-- R80, R212 (D105, D108): exactly sixteen bytes match no opcode; in `Fetch` such a byte raises the fault and changes nothing
else; and a running machine raises that fault in no other way. -/
def Obligations.ReservedByteFatalOnlyInFetch : Prop :=
  (∀ b : Byte, decodeByte b = none ↔ (0x08 ≤ b.toNat ∧ b.toNat ≤ 0x0F) ∨ (0xB8 ≤ b.toNat ∧ b.toNat ≤ 0xBF)) ∧
  (∀ (s : State) (b : Byte), s.running → s.eu = .fetch → s.fetchByte = some b →
    ((0x08 ≤ b.toNat ∧ b.toNat ≤ 0x0F) ∨ (0xB8 ≤ b.toNat ∧ b.toNat ≤ 0xBF)) →
    step s = .next { s with fault := some .undecodableInstruction }) ∧
  (∀ s t : State, s.running → step s = .next t → t.fault = some .undecodableInstruction →
    s.eu = .fetch ∧ ∃ b : Byte, s.fetchByte = some b ∧
      ((0x08 ≤ b.toNat ∧ b.toNat ≤ 0x0F) ∨ (0xB8 ≤ b.toNat ∧ b.toNat ≤ 0xBF)))

/-- R210 (D127): a tick that raises a fatal condition sets `FAULT` and leaves every other thing as it was before the tick;
and `FAULT` is absorbing. R211 (D124, D127): the five codes, and exactly when each is raised: 1 by the tick, 2 by `MMU 4`, 3
and 4 by `ENT`, 5 by reset. -/
def Obligations.FatalConditionsArePrecise : Prop :=
  ∀ s : State,
    (∀ t, step s = .next t → t.fault ≠ s.fault → t.fault ≠ none ∧ t = { s with fault := t.fault }) ∧
    (s.fault ≠ none → step s = .next s) ∧
    (s.running → ∀ t, step s = .next t →
      (t.faultCode = some 1 ↔ s.eu = .fetch ∧ ∃ b, s.fetchByte = some b ∧ decodeByte b = none)) ∧
    (s.fault = none → ∀ (i : Instr) (t : State), exec i s = .next t →
      t.faultCode ≠ some 1 ∧
      (t.faultCode = some 2 ↔ i = .mmu .lkp ∧ s.mode = .kernel ∧ ∀ e ∈ s.cfg.syscallTable, e.number ≠ s.a) ∧
      (t.faultCode = some 3 ↔ (∃ n, i = .ent n) ∧ s.mode = .kernel) ∧
      (t.faultCode = some 4 ↔ (∃ n, i = .ent n) ∧ s.mode = .application ∧ s.cfg.kernelEntry = none) ∧
      t.faultCode ≠ some 5) ∧
    ∀ cfg : RunConfig, (State.resetWith cfg).faultCode =
      if cfg.store0.isMapped 0#8 0#3 = true then none else some 5

/-- R93, R94 (D108): what the tick of a running machine does with a present byte, in `Fetch` and in `Await`; a two-byte
instruction's second tick returns to `Fetch`. -/
def Obligations.TickDispatchesOnEuState : Prop :=
  ∀ (s : State) (b : Byte), s.running → s.line ≤ 31 → s.islot.lines.get s.line = some b →
    (s.eu = .fetch →
      (decodeByte b = none → step s = .next { s with fault := some .undecodableInstruction }) ∧
      (∀ op k, decodeByte b = some (op, k) →
        (op.hasSecondary = true → step s = .next { s with eu := .await op k, line := s.line + 1 }) ∧
        (op.hasSecondary = false → step s = exec (op.instr k 0#8) s))) ∧
    (∀ op k, s.eu = .await op k →
      step s = exec (op.instr k b) s ∧ (op.hasSecondary = true → ∀ t, step s = .next t → t.eu = .fetch))

/-- When the bytes at `LINE` decode to a one-byte instruction, the step is its `exec`; when they decode to a two-byte
instruction, the first step holds the first byte and advances, and the second is its `exec` (R91, R93, R94, R98). -/
def Obligations.StepRunsDecodedInstruction : Prop :=
  ∀ (s : State) (b : Byte) (i : Instr), s.running → s.eu = .fetch → s.line ≤ 31 → s.islot.lines.get s.line = some b →
    (decode [b] = .ok i [] → step s = exec i s) ∧
    (∀ b2 : Byte, s.line + 1 ≤ 31 → s.islot.lines.get (s.line + 1) = some b2 → decode [b, b2] = .ok i [] →
      ∃ op k, step s = .next { s with eu := .await op k, line := s.line + 1 } ∧
        step { s with eu := .await op k, line := s.line + 1 } =
          exec i { s with eu := .await op k, line := s.line + 1 })

/-- The model's choices, stated of every state: a step answers a next state and never a fault or a refusal (log 6, DEDUCED;
a port load always completes, log 7, PRESUMED), and the parameters of the run stand in the state and stay as they are (log 1,
DESIGN CHOICE). -/
def Obligations.EveryStepAnswersAndKeepsParameters : Prop :=
  ∀ s : State, ∃ t, step s = .next t ∧ t.cfg = s.cfg

/-! ### The codec -/

/-- A few words written out from the map of R76, one for each format (R71). -/
def Obligations.SpecWordsDecode : Prop :=
  decode [0x03] = .ok .ret [] ∧ decode [0x04, 0x20] = .ok (.jmp 0x20) [] ∧ decode [0x4A] = .ok (.add .r2) [] ∧
  decode [0x9E, 0x04] = .ok (.brh .nz 0x04) [] ∧ decode [0xB5] = .ok (.mmu .xkm) [] ∧ decode [0xDF] = .ok (.pld 15) [] ∧
  decode [0xE2] = .ok (.ent 2) [] ∧ decode [0x08] = .data 0x08

/-- R84: decoding the bytes of any instruction, whatever follows them, gives it back with what follows, and whatever bytes
decode to an instruction are its bytes; for one byte: decoding the encoding of an opcode and operand gives them back, and
encoding what a byte decodes to gives the byte. -/
def Obligations.DecodeEncodeAgree : Prop :=
  (∀ (i : Instr) (rest : List Byte), decode (encode i ++ rest) = .ok i rest) ∧
  (∀ (bytes rest : List Byte) (i : Instr), decode bytes = .ok i rest → bytes = encode i ++ rest) ∧
  (∀ (op : Opcode) (k : Nat) (b : Byte), encodeByte op k = some b → decodeByte b = some (op, BitVec.ofNat 5 k)) ∧
  (∀ (b : Byte) (op : Opcode) (k : Operand), decodeByte b = some (op, k) → encodeByte op k.toNat = some b)

/-- R74 (D137): encoding an opcode and operand is `pattern | (operand & mask)` when the operand fits, and fails when it does
not: for a zero-width opcode, when it is not 0. -/
def Obligations.EncodeFailsOnUnfitOperand : Prop :=
  ∀ (op : Opcode) (k : Nat),
    (k < 2 ^ op.width → encodeByte op k = some (op.pattern ||| (BitVec.ofNat 8 k &&& ((1 <<< op.width) - 1)))) ∧
    (2 ^ op.width ≤ k → encodeByte op k = none) ∧
    (op.width = 0 → k ≠ 0 → encodeByte op k = none)

/-- R77: no byte matches two opcodes under their width masks, so the first-match order decides nothing. -/
def Obligations.OpcodesPrefixFree : Prop :=
  ∀ (b : Byte) (op op' : Opcode),
    b >>> op.width = op.pattern >>> op.width → b >>> op'.width = op'.pattern >>> op'.width → op = op'

/-! ### Registers, flags, stacks -/

/-- R11, R12, R14 (D102, D103): register number 0 is the accumulator, numbers 1 to 7 are `R[1]` to `R[7]`; writing it is `WriteAcc`; writing another number reads
back the value mod 256 and changes no other register, no flag and nothing else. -/
def Obligations.RegisterReadAndWrite : Prop :=
  ∀ (s : State) (V : Int),
    s.x .acc = s.a ∧ s.x .r1 = s.r1 ∧ s.x .r2 = s.r2 ∧ s.x .r3 = s.r3 ∧ s.x .r4 = s.r4 ∧ s.x .r5 = s.r5 ∧ s.x .r6 = s.r6 ∧
    s.x .r7 = s.r7 ∧
    s.writeReg .acc V = { s with
      a := BitVec.ofInt 8 V
      flags := { c := decide (V > 255), n := decide (V < 0), z := decide (V = 0), p := s.a.getLsbD 0 } } ∧
    ∀ r, r ≠ .acc →
      (s.writeReg r V).x r = BitVec.ofInt 8 V ∧ (∀ q, q ≠ r → (s.writeReg r V).x q = s.x q) ∧
      s.writeReg r V = { s with
        r1 := (s.writeReg r V).r1, r2 := (s.writeReg r V).r2, r3 := (s.writeReg r V).r3, r4 := (s.writeReg r V).r4
        r5 := (s.writeReg r V).r5, r6 := (s.writeReg r V).r6, r7 := (s.writeReg r V).r7 }

/-- R16 (D104): the eight conditions by number, the upper four being the complements of the lower four. -/
def Obligations.ConditionsByNumber : Prop :=
  ∀ f : Flags,
    f.holds (Cond.ofBits 0) = f.c ∧ f.holds (Cond.ofBits 1) = f.n ∧ f.holds (Cond.ofBits 2) = f.z ∧
    f.holds (Cond.ofBits 3) = f.p ∧
    ∀ k : BitVec 3, k.toNat < 4 → f.holds (Cond.ofBits (k + 4)) = !f.holds (Cond.ofBits k)

/-- R19, R147 (D110, D111): on either stack, pushing any values on an empty stack and popping gives them back last first, and
popping on gives 0 for ever. -/
def Obligations.StacksAreLifo : Prop :=
  ∀ (vs : List Byte) (s : State) (j : Nat),
    (s.pstack = [] →
      topOf ((State.dropP)^[j] (vs.foldl State.pushP s)).pstack = vs.reverse.getD j 0#8) ∧
    (s.cstack = [] →
      topOf ((State.dropC)^[j] (vs.foldl State.pushC s)).cstack = vs.reverse.getD j 0#8)

/-! ### Data movement -/

/-- R100 (D107): `NOP` only advances. -/
def Obligations.NopOnlyAdvances : Prop :=
  OneTick 0x00 .nop ∧ ∀ s : State, exec .nop s = .next { s with line := s.line + 1, eu := .fetch }

/-- R110 (D102, D105): `IMM r, b`. -/
def Obligations.ImmLoadsSecondaryByte : Prop :=
  ∀ r, TwoTicks (0x10 ||| r.bits.setWidth 8) (.imm r) ∧
    ∀ (b : Byte) (s : State), ∃ t, exec (.imm r b) s = .next t ∧ RegWritten r b.toNat s t

/-- R111, R112 (D105): `AST r` writes the accumulator from a register, `RST r` a register from the accumulator. -/
def Obligations.AccumulatorExchangesWithRegister : Prop :=
  ∀ r, OneTick (0x18 ||| r.bits.setWidth 8) (.ast r) ∧ OneTick (0x20 ||| r.bits.setWidth 8) (.rst r) ∧
    ∀ s : State,
      (∃ t, exec (.ast r) s = .next t ∧ RegWritten .acc (s.x r).toNat s t) ∧
      (∃ t, exec (.rst r) s = .next t ∧ RegWritten r s.a.toNat s t)

/-! ### ALU -/

/-- R121 (D103, D114): `ADD r` adds the modifier, clears it, and takes the flags from the untruncated sum. -/
def Obligations.AddUsesAndClearsCarryModifier : Prop :=
  ∀ r, OneTick (0x48 ||| r.bits.setWidth 8) (.add r) ∧
    ∀ s : State, ∃ t, exec (.add r) s = .next t ∧
      RegWritten .acc (s.a.toNat + (s.x r).toNat + (if s.cmod then 1 else 0) : Int) { s with cmod := false } t

/-- R122 (D103, D114): `SUB r`; the modifier is neither read nor cleared. -/
def Obligations.SubSetsBorrow : Prop :=
  ∀ r, OneTick (0x50 ||| r.bits.setWidth 8) (.sub r) ∧
    ∀ s : State, ∃ t, exec (.sub r) s = .next t ∧ RegWritten .acc (s.a.toNat - (s.x r).toNat : Int) s t

/-- R123, R124, R125 (D105): `AND r`, `IOR r`, `XOR r`. -/
def Obligations.BitwiseOperationsWriteAccumulator : Prop :=
  ∀ r, OneTick (0x58 ||| r.bits.setWidth 8) (.and r) ∧ OneTick (0x60 ||| r.bits.setWidth 8) (.ior r) ∧
    OneTick (0x68 ||| r.bits.setWidth 8) (.xor r) ∧
    ∀ s : State,
      (∃ t, exec (.and r) s = .next t ∧ RegWritten .acc (s.a &&& s.x r).toNat s t) ∧
      (∃ t, exec (.ior r) s = .next t ∧ RegWritten .acc (s.a ||| s.x r).toNat s t) ∧
      (∃ t, exec (.xor r) s = .next t ∧ RegWritten .acc (s.a ^^^ s.x r).toNat s t)

/-- R126 to R129 (D103, D115, D116): `INC`, `DEC`, `NEG` and `RSH` (halving) in place on any register; the flags change only
when it is the accumulator. -/
def Obligations.UnaryOperationsInPlace : Prop :=
  ∀ r, OneTick (0x28 ||| r.bits.setWidth 8) (.inc r) ∧ OneTick (0x30 ||| r.bits.setWidth 8) (.dec r) ∧
    OneTick (0x38 ||| r.bits.setWidth 8) (.neg r) ∧ OneTick (0x40 ||| r.bits.setWidth 8) (.rsh r) ∧
    ∀ s : State,
      (∃ t, exec (.inc r) s = .next t ∧ RegWritten r ((s.x r).toNat + 1 : Int) s t) ∧
      (∃ t, exec (.dec r) s = .next t ∧ RegWritten r ((s.x r).toNat - 1 : Int) s t) ∧
      (∃ t, exec (.neg r) s = .next t ∧ RegWritten r (0 - (s.x r).toNat : Int) s t) ∧
      (∃ t, exec (.rsh r) s = .next t ∧ RegWritten r ((s.x r).toNat / 2 : Int) s t)

/-- R130 (D114): `CRY` sets the propagate-carry modifier, whatever the flags; it stays set across every instruction but
`ADD`. -/
def Obligations.CrySetsCarryModifier : Prop :=
  OneTick 0x01 .cry ∧
  (∀ s : State, exec .cry s = .next { s with cmod := true, line := s.line + 1, eu := .fetch }) ∧
  ∀ (i : Instr) (s t : State), (∀ r, i ≠ .add r) → s.cmod = true → exec i s = .next t → t.cmod = true

/-! ### Stacks -/

/-- R140, R142, R143, R145 (D106, D117): the four pushes; only their own stack grows. -/
def Obligations.PushInstructions : Prop :=
  (∀ r, OneTick (0x70 ||| r.bits.setWidth 8) (.pps r) ∧ OneTick (0x80 ||| r.bits.setWidth 8) (.cps r) ∧
    ∀ s : State,
      exec (.pps r) s = .next { s with pstack := s.x r :: s.pstack, line := s.line + 1, eu := .fetch } ∧
      exec (.cps r) s = .next { s with cstack := s.x r :: s.cstack, line := s.line + 1, eu := .fetch }) ∧
  TwoTicks 0x06 .ppi ∧ TwoTicks 0x07 .cpi ∧
  ∀ (b : Byte) (s : State),
    exec (.ppi b) s = .next { s with pstack := b :: s.pstack, line := s.line + 1, eu := .fetch } ∧
    exec (.cpi b) s = .next { s with cstack := b :: s.cstack, line := s.line + 1, eu := .fetch }

/-- R141, R144 (D117): the two pops, on a non-empty stack (the register takes the top, the rest stays) and on an empty one
(the register takes 0, the stack stays empty). -/
def Obligations.PopInstructions : Prop :=
  ∀ r, OneTick (0x78 ||| r.bits.setWidth 8) (.ppl r) ∧ OneTick (0x88 ||| r.bits.setWidth 8) (.cpl r) ∧
    ∀ s : State,
      (∀ v rest, s.pstack = v :: rest → ∃ t, exec (.ppl r) s = .next t ∧ RegWritten r v.toNat { s with pstack := rest } t) ∧
      (s.pstack = [] → ∃ t, exec (.ppl r) s = .next t ∧ RegWritten r 0 s t) ∧
      (∀ v rest, s.cstack = v :: rest → ∃ t, exec (.cpl r) s = .next t ∧ RegWritten r v.toNat { s with cstack := rest } t) ∧
      (s.cstack = [] → ∃ t, exec (.cpl r) s = .next t ∧ RegWritten r 0 s t)

/-! ### Control transfer -/

/-- R152, R153 (D112, D113): `POI r` sets the pointer modifier from a register; `FWD` captures the overflow flag as it
stands; only the five address-forming instructions and the setter itself change a modifier. -/
def Obligations.AddressModifierSetters : Prop :=
  (∀ r, OneTick (0x90 ||| r.bits.setWidth 8) (.poi r) ∧
    ∀ s : State, exec (.poi r) s = .next { s with ptr := s.x r, line := s.line + 1, eu := .fetch }) ∧
  OneTick 0x02 .fwd ∧
  (∀ s : State, exec .fwd s = .next { s with fwdb := s.flags.c, line := s.line + 1, eu := .fetch }) ∧
  ∀ (i : Instr) (s t : State), exec i s = .next t →
    (∀ b, i ≠ .jmp b ∧ i ≠ .cal b) → (∀ cc b, i ≠ .brh cc b) → (∀ r b, i ≠ .mld r b ∧ i ≠ .mst r b) →
    ((∀ r, i ≠ .poi r) → t.ptr = s.ptr) ∧ (i ≠ .fwd → t.fwdb = s.fwdb)

/-- R150, R154 (D105, D112): `JMP b` transfers to `PTR | FWDB | b` and consumes both modifiers. -/
def Obligations.JmpTransfersToCompositeAddress : Prop :=
  TwoTicks 0x04 .jmp ∧
  ∀ (b : Byte) (s : State),
    let addr : Byte := s.ptr ||| (if s.fwdb then 1#8 else 0#8) ||| b
    exec (.jmp b) s = .next
      { ({ s with ptr := 0#8, fwdb := false } : State).icacheCtl s.iseg ((addr >>> 5).setWidth 3) with
        line := addr.toNat % 32, eu := .fetch }

/-- R155 (D110, D112): `CAL b` pushes the packed address after its secondary byte, mod 256, computed before the transfer. -/
def Obligations.CalPushesReturnAddress : Prop :=
  TwoTicks 0x05 .cal ∧
  ∀ (b : Byte) (s : State),
    let addr : Byte := s.ptr ||| (if s.fwdb then 1#8 else 0#8) ||| b
    let ret : Byte := BitVec.ofNat 8 ((s.islot.page.toNat <<< 5 ||| s.line) + 1)
    exec (.cal b) s = .next
      { ({ s with ptr := 0#8, fwdb := false, cstack := ret :: s.cstack } : State).icacheCtl s.iseg ((addr >>> 5).setWidth 3) with
        line := addr.toNat % 32, eu := .fetch }

/-- R156 (D104, D112): `BRH c, b` consumes the modifiers either way; taken it transfers, not taken it advances and leaves the
slot alone. -/
def Obligations.BrhTakenAndNotTaken : Prop :=
  ∀ cc, TwoTicks (0x98 ||| cc.bits.setWidth 8) (.brh cc) ∧
    ∀ (b : Byte) (s : State),
      let addr : Byte := s.ptr ||| (if s.fwdb then 1#8 else 0#8) ||| b
      (s.flags.holds cc = true → exec (.brh cc b) s = .next
        { ({ s with ptr := 0#8, fwdb := false } : State).icacheCtl s.iseg ((addr >>> 5).setWidth 3) with
          line := addr.toNat % 32, eu := .fetch }) ∧
      (s.flags.holds cc = false → exec (.brh cc b) s = .next
        { s with ptr := 0#8, fwdb := false, line := s.line + 1, eu := .fetch })

/-- R157 (D117): `RET` transfers to the popped packed address, 0 from an empty stack; the address modifiers are neither read
nor cleared. -/
def Obligations.RetTransfersToPoppedAddress : Prop :=
  OneTick 0x03 .ret ∧
  ∀ s : State,
    (∀ addr rest, s.cstack = addr :: rest → exec .ret s = .next
      { ({ s with cstack := rest } : State).icacheCtl s.iseg ((addr >>> 5).setWidth 3) with
        line := addr.toNat % 32, eu := .fetch }) ∧
    (s.cstack = [] → exec .ret s = .next { s.icacheCtl s.iseg 0#3 with line := 0, eu := .fetch })

/-! ### Memory -/

/-- R46, R49 (D120, D132): the instruction cache controller does nothing on a hit (R45) and otherwise makes the slot a valid
clone of the page, line by line; it changes nothing else, `STORE` least of all. -/
def Obligations.InstructionCacheController : Prop :=
  ∀ (s : State) (seg : Segment) (page : PageNum),
    let t := s.icacheCtl seg page
    (s.islot.valid = true ∧ s.islot.seg = seg ∧ s.islot.page = page → t = s) ∧
    (¬(s.islot.valid = true ∧ s.islot.seg = seg ∧ s.islot.page = page) →
      t = { s with islot := { seg := seg, page := page, valid := true, lines := t.islot.lines } } ∧
      ∀ l : LineNum, t.islot.lines.get l.toNat = s.store.get seg page l.toNat)

/-- R47, R49 (D132): the data cache controller does nothing on a hit (R45); on a miss it writes a dirty page back under the
slot's own address (replace or insert), a clean one not, and only then clones the target page. That the event history
records the write-back is no part of R47 but log 5 (DEDUCED, from 95_test_vectors.md section 0). -/
def Obligations.DataCacheController : Prop :=
  ∀ (s : State) (seg : Segment) (page : PageNum),
    let t := s.dcacheCtl seg page
    (s.dslot.valid = true ∧ s.dslot.seg = seg ∧ s.dslot.page = page → t = s) ∧
    (¬(s.dslot.valid = true ∧ s.dslot.seg = seg ∧ s.dslot.page = page) →
      t = { s with
        store := t.store, events := t.events
        dslot := { seg := seg, page := page, valid := true, dirty := false, lines := t.dslot.lines } } ∧
      (s.dslot.dirty = false → t.store = s.store ∧ t.events = s.events) ∧
      (s.dslot.dirty = true →
        t.events = s.events ++ [.writeBack s.dslot.seg s.dslot.page] ∧
        t.store.isMapped s.dslot.seg s.dslot.page = true ∧
        ∀ (sg : Segment) (pg : PageNum),
          ((sg, pg) ≠ (s.dslot.seg, s.dslot.page) → t.store.isMapped sg pg = s.store.isMapped sg pg) ∧
          ∀ l : LineNum, t.store.get sg pg l.toNat =
            if (sg, pg) = (s.dslot.seg, s.dslot.page) then s.dslot.lines.get l.toNat else s.store.get sg pg l.toNat) ∧
      ∀ l : LineNum, t.dslot.lines.get l.toNat = t.store.get seg page l.toNat)

/-- R50 (D119): the effective data segment. -/
def Obligations.EffectiveDataSegment : Prop :=
  ∀ s : State,
    (∀ k, s.kds = some k → s.dseg = k) ∧ (∀ d, s.kds = none → s.ds = some d → s.dseg = d) ∧
    (s.kds = none → s.ds = none → s.dseg = s.iseg)

/-- R170 (D118): `MLD r, b` makes the page of the composite address resident and loads its line, 0 where it is absent. -/
def Obligations.MldLoadsThroughDataSlot : Prop :=
  ∀ r, TwoTicks (0xA0 ||| r.bits.setWidth 8) (.mld r) ∧
    ∀ (b : Byte) (s : State),
      let addr : Byte := s.ptr ||| (if s.fwdb then 1#8 else 0#8) ||| b
      let u := ({ s with ptr := 0#8, fwdb := false } : State).dcacheCtl s.dseg ((addr >>> 5).setWidth 3)
      (∀ v, u.dslot.lines.get (addr.toNat % 32) = some v → ∃ t, exec (.mld r b) s = .next t ∧ RegWritten r v.toNat u t) ∧
      (u.dslot.lines.get (addr.toNat % 32) = none → ∃ t, exec (.mld r b) s = .next t ∧ RegWritten r 0 u t)

/-- R53, R171 (D118, D133): `MST r, b` makes the page of the composite address resident, writes its line, sets dirty, and
changes no other line and nothing else. -/
def Obligations.MstStoresThroughDataSlot : Prop :=
  ∀ r, TwoTicks (0xA8 ||| r.bits.setWidth 8) (.mst r) ∧
    ∀ (b : Byte) (s : State),
      let addr : Byte := s.ptr ||| (if s.fwdb then 1#8 else 0#8) ||| b
      let u := ({ s with ptr := 0#8, fwdb := false } : State).dcacheCtl s.dseg ((addr >>> 5).setWidth 3)
      ∃ t, exec (.mst r b) s = .next t ∧
        t = { u with dslot := { u.dslot with lines := t.dslot.lines, dirty := true }, line := s.line + 1, eu := .fetch } ∧
        t.dslot.lines.get (addr.toNat % 32) = some (s.x r) ∧
        ∀ l, l ≠ addr.toNat % 32 → t.dslot.lines.get l = u.dslot.lines.get l

/-- The memory frame of every instruction but `MST`: every byte memory holds reads as before, also where a load evicts a
dirty page (R47, R52, R59). -/
def Obligations.OnlyMstChangesMemory : Prop :=
  ∀ (i : Instr) (s t : State), (∀ r b, i ≠ .mst r b) → exec i s = .next t →
    ∀ (seg : Segment) (page : PageNum) (line : LineNum), t.memByte seg page line = s.memByte seg page line

/-- The memory frame of `MST`: the byte at the effective data segment and the composite address becomes the register's, and
every other byte reads as before (R53, R59, R171). The invariant rules out a valid clean slot that is no clone. -/
def Obligations.MstChangesExactlyOneByte : Prop :=
  ∀ (r : Reg) (b : Byte) (s : State), s.Inv → ∃ t, exec (.mst r b) s = .next t ∧
    ∀ (seg : Segment) (page : PageNum) (line : LineNum),
      t.memByte seg page line =
        if (seg, page, line) =
            (s.dseg, (s.composedAddr b >>> 5).setWidth 3, ((s.composedAddr b).setWidth 5 : LineNum))
        then some (s.x r) else s.memByte seg page line

/-- A load yields the byte memory holds at its address, 0 where none is present (R52, R59). -/
def Obligations.MldReadsMemoryByte : Prop :=
  ∀ (r : Reg) (b : Byte) (s : State), s.Inv → ∃ t, exec (.mld r b) s = .next t ∧
    t.x r = (s.memByte s.dseg ((s.composedAddr b >>> 5).setWidth 3) ((s.composedAddr b).setWidth 5)).getD 0#8

/-- R173: a store, then a load from another page, then a load from the stored address: the first load's eviction puts the
byte in `STORE`, and the second load yields it. -/
def Obligations.EvictedStoreIsReloaded : Prop :=
  ∀ (r q w : Reg) (b other : Byte) (s : State),
    (other >>> 5) ≠ (s.composedAddr b >>> 5) →
    ∃ t1 t2 t3, exec (.mst r b) s = .next t1 ∧ t1.dslot.dirty = true ∧
      exec (.mld q other) t1 = .next t2 ∧
      t2.store.get s.dseg ((s.composedAddr b >>> 5).setWidth 3) ((s.composedAddr b).toNat % 32) = some (s.x r) ∧
      exec (.mld w (s.composedAddr b)) t2 = .next t3 ∧ t3.x w = s.x r

/-- `STORE` changes only in `MLD` or `MST` that misses on a dirty data slot, and then to the write-back of that slot under its
own address (R42, R45, R47). That the event history records the write-back is log 5 (DEDUCED, from 95_test_vectors.md section
0). -/
def Obligations.OnlyDirtyMissWritesStore : Prop :=
  ∀ (i : Instr) (s t : State), exec i s = .next t → t.store ≠ s.store →
    (∃ r b, (i = .mld r b ∨ i = .mst r b) ∧
      ¬(s.dslot.valid = true ∧ s.dslot.seg = s.dseg ∧ s.dslot.page = (s.composedAddr b >>> 5).setWidth 3)) ∧
    s.dslot.dirty = true ∧
    t.store = s.store.put s.dslot.seg s.dslot.page s.dslot.lines ∧
    t.events = s.events ++ [.writeBack s.dslot.seg s.dslot.page]

/-- The bytes instruction fetch reads change only in a control transfer, `ENT` or `MMU 4`: no store is seen by fetch before
one (R61, R253). -/
def Obligations.FetchedPageChangesOnlyByTransfer : Prop :=
  ∀ (i : Instr) (s t : State), exec i s = .next t →
    (∀ b, i ≠ .jmp b) → (∀ b, i ≠ .cal b) → (∀ cc b, i ≠ .brh cc b) → i ≠ .ret → (∀ n, i ≠ .ent n) → i ≠ .mmu .lkp →
    t.islot.lines = s.islot.lines ∧ t.islot.seg = s.islot.seg ∧ t.islot.page = s.islot.page

/-! ### Ports -/

/-- R181 (D125): `PST p` records the store of the accumulator where a device is, and is a silent no-op elsewhere. -/
def Obligations.PstStoresAccumulator : Prop :=
  ∀ p : PortAddr, OneTick (0xC0 ||| p.setWidth 8) (.pst p) ∧
    ∀ s : State,
      ((∃ e ∈ s.cfg.portMap, e.port = p) → exec (.pst p) s = .next
        { s with events := s.events ++ [.portStore p s.a], line := s.line + 1, eu := .fetch }) ∧
      ((∀ e ∈ s.cfg.portMap, e.port ≠ p) → exec (.pst p) s = .next { s with line := s.line + 1, eu := .fetch })

/-- R182 (D125): `PLD p` writes the accumulator from the device's answer, whatever that is, and records it; without a
device the accumulator and the flags keep their values. The oracle's own fields may change as they like. -/
def Obligations.PldLoadsDeviceAnswer : Prop :=
  ∀ p : PortAddr, OneTick (0xD0 ||| p.setWidth 8) (.pld p) ∧
    ∀ s : State,
      ((∃ e ∈ s.cfg.portMap, e.port = p) → ∃ (v : Byte) (t : State), exec (.pld p) s = .next t ∧
        RegWritten .acc v.toNat
          { s with events := s.events ++ [.portLoad p v], portAnswers := t.portAnswers, portLoads := t.portLoads } t) ∧
      ((∀ e ∈ s.cfg.portMap, e.port ≠ p) → exec (.pld p) s = .next { s with line := s.line + 1, eu := .fetch })

/-- The model's own oracle (log 4): answers listed for a run reach the port loads in order, one each. -/
def Obligations.ListedPortAnswersAreUsedInOrder : Prop :=
  ∀ (p : PortAddr) (s : State) (v : Byte) (rest : List Byte),
    (∃ e ∈ s.cfg.portMap, e.port = p) → s.portAnswers = v :: rest →
    ∃ t, exec (.pld p) s = .next t ∧ t.a = v ∧ t.portAnswers = rest

/-- At most one port transaction per instruction, and only by `PST` or `PLD` (R184). The event history also holds write-backs
(log 5, DEDUCED from 95_test_vectors.md section 0), so the bound counts them: at most one event of any kind. -/
def Obligations.PortEventsOnlyByPortInstructions : Prop :=
  ∀ (i : Instr) (s t : State), exec i s = .next t →
    (∃ e, t.events = s.events ++ [e] ∧
      ((∃ p v, i = .pst p ∧ e = .portStore p v) ∨ (∃ p v, i = .pld p ∧ e = .portLoad p v) ∨
       ∃ seg page, e = .writeBack seg page)) ∨
    t.events = s.events

/-! ### Privilege -/

/-- R190 (D123, D124): `ENT n` is fatal in kernel mode and without a configured entry; otherwise it pushes `n`, enters kernel
mode, sets `ISEG`, reloads the slot from the entry page and goes to the entry line; nothing else changes. -/
def Obligations.EntTakesTheTrap : Prop :=
  ∀ n : SysNum, OneTick (0xE0 ||| n.setWidth 8) (.ent n) ∧
    ∀ s : State,
      (s.mode = .kernel → exec (.ent n) s = .next { s with fault := some .nestedKernelCall }) ∧
      (s.mode = .application → s.cfg.kernelEntry = none →
        exec (.ent n) s = .next { s with fault := some .kernelEntryUnconfigured }) ∧
      (∀ e, s.mode = .application → s.cfg.kernelEntry = some e → ∃ t, exec (.ent n) s = .next t ∧
        t = { s with
          pstack := n.setWidth 8 :: s.pstack, mode := .kernel, iseg := e.seg
          islot := { seg := e.seg, page := e.page, valid := true, lines := t.islot.lines }
          line := e.line.toNat, eu := .fetch } ∧
        ∀ l : LineNum, t.islot.lines.get l.toNat = s.store.get e.seg e.page l.toNat)

/-- `MMU f` in application mode is a silent no-op that advances, for each of the eight sub-operations (R191; D121, D130). -/
def Obligations.MmuIsSilentInApplicationMode : Prop :=
  ∀ f, OneTick (0xB0 ||| f.bits.setWidth 8) (.mmu f) ∧
    ∀ s : State, s.mode = .application → exec (.mmu f) s = .next { s with line := s.line + 1, eu := .fetch }

/-- R193 to R196 (D120): no instruction makes a set `DS` none again; in kernel mode `MMU 0` sets `ISEG` and only invalidates the instruction slot, so fetch goes on in the
old page; `MMU 1` pushes `ISEG`; `MMU 2` and `MMU 3` set the overrides and only invalidate the data slot, whose dirty page
stays dirty. -/
def Obligations.SegmentOperations : Prop :=
  (∀ (i : Instr) (s t : State), exec i s = .next t → s.ds ≠ none → t.ds ≠ none) ∧
  ∀ s : State, s.mode = .kernel →
    exec (.mmu (MmuOp.ofBits 0)) s = .next
      { s with iseg := s.a, islot := { s.islot with valid := false }, line := s.line + 1, eu := .fetch } ∧
    exec (.mmu (MmuOp.ofBits 1)) s = .next { s with cstack := s.iseg :: s.cstack, line := s.line + 1, eu := .fetch } ∧
    exec (.mmu (MmuOp.ofBits 2)) s = .next
      { s with ds := some s.a, dslot := { s.dslot with valid := false }, line := s.line + 1, eu := .fetch } ∧
    exec (.mmu (MmuOp.ofBits 3)) s = .next
      { s with kds := some s.a, dslot := { s.dslot with valid := false }, line := s.line + 1, eu := .fetch }

/-- R197 (D122): `MMU 4` continues at line 0 of the page the syscall table names for the accumulator, and is fatal where it
names none. -/
def Obligations.LoadKernelPageFollowsSyscallTable : Prop :=
  ∀ s : State, s.mode = .kernel →
    ((∀ e ∈ s.cfg.syscallTable, e.number ≠ s.a) →
      exec (.mmu (MmuOp.ofBits 4)) s = .next { s with fault := some .unmappedSyscall }) ∧
    (∀ e ∈ s.cfg.syscallTable, e.number = s.a → (∀ f ∈ s.cfg.syscallTable, f.number = s.a → f = e) →
      ∃ t, exec (.mmu (MmuOp.ofBits 4)) s = .next t ∧
        t = { s with
          iseg := e.seg, islot := { seg := e.seg, page := e.page, valid := true, lines := t.islot.lines }
          line := 0, eu := .fetch } ∧
        ∀ l : LineNum, t.islot.lines.get l.toNat = s.store.get e.seg e.page l.toNat)

/-- R198: `MMU 5` leaves kernel mode, clears the kernel override, invalidates the data slot, and goes on at the next line. -/
def Obligations.ExitKernelMode : Prop :=
  ∀ s : State, s.mode = .kernel →
    exec (.mmu (MmuOp.ofBits 5)) s = .next
      { s with
        mode := .application, kds := none, dslot := { s.dslot with valid := false }, line := s.line + 1, eu := .fetch }

/-- R199, R200: `MMU 6` and `MMU 7` move the process id from and to the accumulator. -/
def Obligations.ProcessIdOperations : Prop :=
  ∀ s : State, s.mode = .kernel →
    exec (.mmu (MmuOp.ofBits 6)) s = .next { s with pid := s.a, line := s.line + 1, eu := .fetch } ∧
    ∃ t, exec (.mmu (MmuOp.ofBits 7)) s = .next t ∧ RegWritten .acc s.pid.toNat s t

/-- The mode is changed only by `ENT`, to kernel, and by `MMU 5`, to application (R28, R201). -/
def Obligations.ModeChangesOnlyByEntAndExit : Prop :=
  ∀ (i : Instr) (s t : State), exec i s = .next t → t.mode ≠ s.mode →
    ((∃ n, i = .ent n) ∧ t.mode = .kernel) ∨ (i = .mmu .xkm ∧ t.mode = .application)

/-- Every instruction but `MMU` and `ENT` behaves the same in both modes (R201). -/
def Obligations.OtherInstructionsIgnoreMode : Prop :=
  ∀ (i : Instr) (s t : State) (m : Mode), (∀ f, i ≠ .mmu f) → (∀ n, i ≠ .ent n) → exec i s = .next t →
    exec i { s with mode := m } = .next { t with mode := m }

/-- No step in application mode changes the segment registers, the process id or the mode, unless it runs `ENT`
(R58, R191, R201). -/
def Obligations.ApplicationKeepsControlState : Prop :=
  ∀ (i : Instr) (s t : State), s.mode = .application → (∀ n, i ≠ .ent n) → exec i s = .next t →
    t.iseg = s.iseg ∧ t.ds = s.ds ∧ t.kds = s.kds ∧ t.pid = s.pid ∧ t.mode = .application

/-! ### The invariant -/

/-- The invariant holds right after reset. -/
def Obligations.ResetMeetsInvariant : Prop := State.reset.Inv

/-- Every launch that is not refused leaves a state that meets the invariant (R3, R240). -/
def Obligations.LaunchMeetsInvariant : Prop :=
  ∀ (c : RawConfig) (t : State), launch c = .next t → t.Inv

/-- Every step keeps the invariant: memory and both slots stay in canonical form, `LINE` stays in 0..32, a valid instruction
slot belongs to `ISEG` (R202), the kernel override is set in kernel mode only (R33), a valid clean data slot is a true
clone, a dirty one holds a statement, and a held first byte stands before `LINE`. -/
def Obligations.StepKeepsInvariant : Prop :=
  ∀ s t : State, s.Inv → step s = .next t → t.Inv
end

