-- ==== Sys2Proof/Laws/Codec.lean ====
section
/-!
SUPPORT. Laws of the codec's small parts: names and numbers are inverse, every instruction is well formed, and an
instruction is rebuilt from its opcode, operand and secondary byte.
-/
namespace Sys2Proof

@[simp] theorem Reg.ofBits_bits (r : Reg) : Reg.ofBits r.bits = r := by cases r <;> rfl

@[simp] theorem Cond.ofBits_bits (cc : Cond) : Cond.ofBits cc.bits = cc := by cases cc <;> rfl

@[simp] theorem MmuOp.ofBits_bits (f : MmuOp) : MmuOp.ofBits f.bits = f := by cases f <;> rfl

/-- The enumeration lists every opcode. -/
theorem mem_opcodes (op : Opcode) : op ∈ opcodes := by cases op <;> decide

theorem firstMatch_accepts {ops : List Opcode} {b : Byte} {op : Opcode} (h : firstMatch ops b = some op) :
    op.accepts b = true := by
  induction ops with
  | nil => simp [firstMatch] at h
  | cons o rest ih =>
    by_cases ho : o.accepts b = true
    · simp only [firstMatch, if_pos ho, Option.some.injEq] at h
      exact h ▸ ho
    · simp only [firstMatch, if_neg ho] at h
      exact ih h

/-- Every `Instr` is well formed: its operand types are no wider than its opcode's operand field. -/
theorem Instr.wf_all (i : Instr) : i.wf = true := by
  have h3 (k : BitVec 3) : (k.setWidth 5 : Operand).toNat < 8 := by
    rw [BitVec.toNat_setWidth]
    have := k.isLt
    omega
  have h4 (k : BitVec 4) : (k.setWidth 5 : Operand).toNat < 16 := by
    rw [BitVec.toNat_setWidth]
    have := k.isLt
    omega
  unfold Instr.wf Opcode.fits
  rw [decide_eq_true_iff]
  cases i <;>
    first
    | exact h3 _
    | exact h4 _
    | exact BitVec.isLt (w := 5) _
    | exact Nat.one_pos

theorem setWidth_3_5_3 (k : BitVec 3) : ((k.setWidth 5 : Operand).setWidth 3) = k := by
  apply BitVec.eq_of_toNat_eq
  have := k.isLt
  simp only [BitVec.toNat_setWidth]
  omega

theorem setWidth_4_5_4 (k : BitVec 4) : ((k.setWidth 5 : Operand).setWidth 4) = k := by
  apply BitVec.eq_of_toNat_eq
  have := k.isLt
  simp only [BitVec.toNat_setWidth]
  omega

/-- Opcode, operand and secondary byte rebuild the instruction (R83). -/
theorem Instr.rebuild (i : Instr) : i.opcode.instr i.operand (i.second.getD 0) = i := by
  cases i <;> first | rfl | simp [Instr.opcode, Instr.operand, Instr.second, Opcode.instr]

/-- An instruction has a secondary byte exactly when its opcode does (R79). -/
theorem Instr.second_isSome (i : Instr) : i.second.isSome = i.opcode.hasSecondary := by cases i <;> rfl

end Sys2Proof
end

