-- ==== Sys2Proof/Laws/Memory.lean ====
section
/-!
SUPPORT. Laws of memory, pages and the canonical store: what a read gives after each operation, and that each operation
keeps the canonical form.
-/
namespace Sys2Proof.Machine

/-! ### Reading after an operation -/

@[simp] theorem Memory.get_nil (a : Nat) : Memory.get [] a = none := rfl

theorem Memory.get_set (m : Memory) (a : Nat) (v : Byte) (b : Nat) :
    (m.set a v).get b = if b = a then some v else m.get b := by
  induction m with
  | nil => simp [Memory.set, Memory.get, eq_comm]
  | cons e rest ih =>
    obtain ⟨k, w⟩ := e
    simp only [Memory.set]
    split
    · simp only [Memory.get, eq_comm]
    · split
      · subst a
        by_cases h : b = k
        · simp [Memory.get, h]
        · simp [Memory.get, h, Ne.symm h]
      · simp only [Memory.get, ih]
        by_cases h : k = b <;> by_cases h2 : b = a <;> simp [h, h2] <;> omega

@[simp] theorem Memory.get_set_same (m : Memory) (a : Nat) (v : Byte) : (m.set a v).get a = some v := by
  simp [Memory.get_set]

theorem Memory.get_set_other (m : Memory) {a b : Nat} (v : Byte) (h : b ≠ a) : (m.set a v).get b = m.get b := by
  simp [Memory.get_set, h]

theorem Memory.get_append (m n : Memory) (a : Nat) :
    Memory.get (m ++ n) a = match m.get a with | some v => some v | none => n.get a := by
  induction m with
  | nil => rfl
  | cons e rest ih =>
    obtain ⟨k, w⟩ := e
    by_cases h : k = a <;> simp [Memory.get, h, ih]

theorem Memory.get_slice (base : Nat) (m : Memory) (l : Nat) :
    (Memory.slice base m).get l = if l < 32 then m.get (base + l) else none := by
  induction m with
  | nil => simp [Memory.slice, Memory.get]
  | cons e rest ih =>
    obtain ⟨k, w⟩ := e
    simp only [Memory.slice]
    split
    · simp only [Memory.get, ih]
      by_cases h : k = base + l
      · subst h
        rw [if_pos (by omega), if_pos (by omega), if_pos rfl]
      · rw [if_neg (by omega), if_neg h]
    · simp only [ih, Memory.get]
      by_cases h : k = base + l
      · subst h
        rw [if_neg (by omega), if_neg (by omega)]
      · rw [if_neg h]

theorem Memory.get_shift (base : Nat) (m : Memory) (a : Nat) :
    (Memory.shift base m).get a = if base ≤ a ∧ a < base + 32 then m.get (a - base) else none := by
  induction m with
  | nil => simp [Memory.shift, Memory.get]
  | cons e rest ih =>
    obtain ⟨k, w⟩ := e
    simp only [Memory.shift]
    split
    · simp only [Memory.get, ih]
      by_cases h : base + k = a
      · subst h
        rw [if_pos rfl, if_pos (by omega), if_pos (by omega)]
      · rw [if_neg h]
        split
        · rw [if_neg (by omega)]
        · rfl
    · simp only [ih, Memory.get]
      split
      · rw [if_neg (by omega)]
      · rfl

theorem Memory.get_below (hi : Nat) (m : Memory) (a : Nat) :
    (Memory.below hi m).get a = if a < hi then m.get a else none := by
  induction m with
  | nil => simp [Memory.below, Memory.get]
  | cons e rest ih =>
    obtain ⟨k, w⟩ := e
    simp only [Memory.below]
    split
    · simp only [Memory.get, ih]
      by_cases h2 : k = a
      · subst h2
        rw [if_pos rfl, if_pos (by assumption), if_pos rfl]
      · rw [if_neg h2, if_neg h2]
    · simp only [Memory.get, ih]
      by_cases h2 : k = a
      · subst h2
        rw [if_neg (by assumption), if_neg (by assumption)]
      · rw [if_neg h2]

theorem Memory.get_above (lo : Nat) (m : Memory) (a : Nat) :
    (Memory.above lo m).get a = if lo ≤ a then m.get a else none := by
  induction m with
  | nil => simp [Memory.above, Memory.get]
  | cons e rest ih =>
    obtain ⟨k, w⟩ := e
    simp only [Memory.above]
    split
    · simp only [Memory.get, ih]
      by_cases h2 : k = a
      · subst h2
        rw [if_pos rfl, if_pos (by assumption), if_pos rfl]
      · rw [if_neg h2, if_neg h2]
    · simp only [Memory.get, ih]
      by_cases h2 : k = a
      · subst h2
        rw [if_neg (by assumption), if_neg (by assumption)]
      · rw [if_neg h2]

theorem Memory.get_putPage (m : Memory) (base : Nat) (lines : Memory) (a : Nat) :
    (m.putPage base lines).get a = if base ≤ a ∧ a < base + 32 then lines.get (a - base) else m.get a := by
  simp only [Memory.putPage, Memory.get_append, Memory.get_below, Memory.get_shift, Memory.get_above]
  rcases Nat.lt_or_ge a base with h | h
  · have h1 : ¬(base ≤ a ∧ a < base + 32) := by omega
    have h2 : ¬base + 32 ≤ a := by omega
    simp only [h, h1, h2, if_true, if_false]
    cases m.get a <;> rfl
  · have h1 : ¬a < base := by omega
    rcases Nat.lt_or_ge a (base + 32) with h2 | h2
    · have h3 : ¬base + 32 ≤ a := by omega
      simp only [h, h1, h2, h3, and_self, if_true, if_false]
      cases lines.get (a - base) <;> rfl
    · have h3 : ¬(base ≤ a ∧ a < base + 32) := by omega
      simp only [h1, h2, h3, if_true, if_false]

/-! ### The canonical form -/

theorem Memory.wfIn_cons {lo hi k : Nat} {v : Byte} {rest : Memory} :
    Memory.wfIn lo hi ((k, v) :: rest) = true ↔ lo ≤ k ∧ k < hi ∧ Memory.wfIn (k + 1) hi rest = true := by
  simp [Memory.wfIn, and_assoc]

theorem Memory.wfIn_mono {lo lo' hi : Nat} {m : Memory} (hl : lo' ≤ lo) (h : Memory.wfIn lo hi m = true) :
    Memory.wfIn lo' hi m = true := by
  cases m with
  | nil => rfl
  | cons e rest =>
    obtain ⟨k, v⟩ := e
    rw [Memory.wfIn_cons] at h ⊢
    exact ⟨by omega, h.2⟩

theorem Memory.get_of_lt {lo hi : Nat} {m : Memory} (h : Memory.wfIn lo hi m = true) {a : Nat} (ha : a < lo) :
    m.get a = none := by
  induction m generalizing lo with
  | nil => rfl
  | cons e rest ih =>
    obtain ⟨k, v⟩ := e
    rw [Memory.wfIn_cons] at h
    rw [Memory.get, if_neg (by omega), ih h.2.2 (by omega)]

theorem Memory.get_of_ge {lo hi : Nat} {m : Memory} (h : Memory.wfIn lo hi m = true) {a : Nat} (ha : hi ≤ a) :
    m.get a = none := by
  induction m generalizing lo with
  | nil => rfl
  | cons e rest ih =>
    obtain ⟨k, v⟩ := e
    rw [Memory.wfIn_cons] at h
    rw [Memory.get, if_neg (by omega), ih h.2.2]

theorem Memory.wfIn_set {lo hi : Nat} {m : Memory} (h : Memory.wfIn lo hi m = true) {a : Nat} (v : Byte)
    (hl : lo ≤ a) (hh : a < hi) : Memory.wfIn lo hi (m.set a v) = true := by
  induction m generalizing lo with
  | nil => simp [Memory.set, Memory.wfIn, hl, hh]
  | cons e rest ih =>
    obtain ⟨k, w⟩ := e
    rw [Memory.wfIn_cons] at h
    simp only [Memory.set]
    split
    · rw [Memory.wfIn_cons, Memory.wfIn_cons]
      exact ⟨hl, hh, by omega, h.2⟩
    · split
      · subst a
        rw [Memory.wfIn_cons]
        exact h
      · rw [Memory.wfIn_cons]
        exact ⟨h.1, h.2.1, ih h.2.2 (by omega)⟩

theorem Memory.wfIn_append {lo mid hi : Nat} {m n : Memory} (hm : Memory.wfIn lo mid m = true)
    (hn : Memory.wfIn mid hi n = true) (h1 : lo ≤ mid) (h2 : mid ≤ hi) : Memory.wfIn lo hi (m ++ n) = true := by
  induction m generalizing lo with
  | nil => exact Memory.wfIn_mono h1 hn
  | cons e rest ih =>
    obtain ⟨k, w⟩ := e
    rw [Memory.wfIn_cons] at hm
    rw [List.cons_append, Memory.wfIn_cons]
    exact ⟨hm.1, by omega, ih hm.2.2 (by omega)⟩

theorem Memory.wfIn_below {lo hi : Nat} {m : Memory} (h : Memory.wfIn lo hi m = true) (b : Nat) :
    Memory.wfIn lo b (Memory.below b m) = true := by
  induction m generalizing lo with
  | nil => rfl
  | cons e rest ih =>
    obtain ⟨k, w⟩ := e
    rw [Memory.wfIn_cons] at h
    simp only [Memory.below]
    split
    · rw [Memory.wfIn_cons]
      exact ⟨h.1, by assumption, ih h.2.2⟩
    · exact Memory.wfIn_mono (by omega) (ih h.2.2)

theorem Memory.wfIn_above {lo hi : Nat} {m : Memory} (h : Memory.wfIn lo hi m = true) (b : Nat) :
    Memory.wfIn b hi (Memory.above b m) = true := by
  induction m generalizing lo with
  | nil => rfl
  | cons e rest ih =>
    obtain ⟨k, w⟩ := e
    rw [Memory.wfIn_cons] at h
    simp only [Memory.above]
    split
    · rename_i hb
      rw [Memory.wfIn_cons]
      refine ⟨hb, h.2.1, ?_⟩
      have hr := h.2.2
      clear ih h
      induction rest generalizing k with
      | nil => rfl
      | cons e2 rest2 ih2 =>
        obtain ⟨k2, w2⟩ := e2
        rw [Memory.wfIn_cons] at hr
        simp only [Memory.above, if_pos (show b ≤ k2 by omega)]
        rw [Memory.wfIn_cons]
        exact ⟨hr.1, hr.2.1, ih2 k2 (by omega) hr.2.2⟩
    · exact ih h.2.2

theorem Memory.wfIn_shift {lo : Nat} {m : Memory} (h : Memory.wfIn lo 32 m = true) (base : Nat) :
    Memory.wfIn (base + lo) (base + 32) (Memory.shift base m) = true := by
  induction m generalizing lo with
  | nil => rfl
  | cons e rest ih =>
    obtain ⟨k, w⟩ := e
    rw [Memory.wfIn_cons] at h
    simp only [Memory.shift, if_pos h.2.1]
    rw [Memory.wfIn_cons]
    exact ⟨by omega, by omega, by simpa [Nat.add_assoc] using ih h.2.2⟩

theorem Memory.wfIn_slice {lo hi : Nat} {m : Memory} (h : Memory.wfIn lo hi m = true) (base : Nat) :
    Memory.wfIn (lo - base) 32 (Memory.slice base m) = true := by
  induction m generalizing lo with
  | nil => rfl
  | cons e rest ih =>
    obtain ⟨k, w⟩ := e
    rw [Memory.wfIn_cons] at h
    simp only [Memory.slice]
    split
    · rename_i hk
      rw [Memory.wfIn_cons]
      refine ⟨by omega, by omega, ?_⟩
      have := ih h.2.2
      rwa [show k + 1 - base = k - base + 1 by omega] at this
    · exact Memory.wfIn_mono (by omega) (ih h.2.2)

theorem Memory.wfLines_slice {m : Memory} (h : m.wf = true) (base : Nat) : (Memory.slice base m).wfLines = true :=
  Memory.wfIn_mono (Nat.zero_le _) (Memory.wfIn_slice h base)

theorem Memory.wfLines_set {m : Memory} (h : m.wfLines = true) {l : Nat} (v : Byte) (hl : l < 32) :
    (m.set l v).wfLines = true := Memory.wfIn_set h v (Nat.zero_le _) hl

theorem Memory.wf_putPage {m lines : Memory} (hm : m.wf = true) (hl : lines.wfLines = true) {base : Nat}
    (hb : base + 32 ≤ 65536) : (m.putPage base lines).wf = true := by
  have h3 := Memory.wfIn_above hm (base + 32)
  have h2 := Memory.wfIn_shift hl base
  rw [Nat.add_zero] at h2
  exact Memory.wfIn_append (Memory.wfIn_below hm base) (Memory.wfIn_append h2 h3 (by omega) hb) (Nat.zero_le _) (by omega)

/-! ### Page numbers and the canonical store -/

theorem mem_insertKey (k j : Nat) (l : List Nat) : j ∈ insertKey k l ↔ j = k ∨ j ∈ l := by
  induction l with
  | nil => simp [insertKey]
  | cons i rest ih =>
    simp only [insertKey]
    split
    · simp
    · split
      · subst k
        simp
      · simp [ih]
        tauto

theorem keysIn_cons {lo hi k : Nat} {rest : List Nat} :
    keysIn lo hi (k :: rest) = true ↔ lo ≤ k ∧ k < hi ∧ keysIn (k + 1) hi rest = true := by
  simp [keysIn, and_assoc]

theorem keysIn_insertKey {lo hi k : Nat} {l : List Nat} (h : keysIn lo hi l = true) (hl : lo ≤ k) (hh : k < hi) :
    keysIn lo hi (insertKey k l) = true := by
  induction l generalizing lo with
  | nil => simp [insertKey, keysIn, hl, hh]
  | cons j rest ih =>
    rw [keysIn_cons] at h
    simp only [insertKey]
    split
    · rw [keysIn_cons, keysIn_cons]
      exact ⟨hl, hh, by omega, h.2⟩
    · split
      · rw [keysIn_cons]
        exact h
      · rw [keysIn_cons]
        exact ⟨h.1, h.2.1, ih h.2.2 (by omega)⟩

theorem pageKey_lt (seg : Segment) (page : PageNum) : pageKey seg page < 2048 := by
  have := seg.isLt
  have := page.isLt
  unfold pageKey
  omega

theorem pageKey_inj {s s' : Segment} {p p' : PageNum} : pageKey s p = pageKey s' p' ↔ s = s' ∧ p = p' := by
  refine ⟨fun h => ?_, fun ⟨h1, h2⟩ => by rw [h1, h2]⟩
  have := p.isLt
  have := p'.isLt
  unfold pageKey at h
  exact ⟨BitVec.eq_of_toNat_eq (by omega), BitVec.eq_of_toNat_eq (by omega)⟩

theorem lineAddr_zero_add (seg : Segment) (page : PageNum) (l : Nat) : lineAddr seg page 0 + l = lineAddr seg page l := by
  unfold lineAddr
  omega

theorem Store.isMapped_iff (st : Store) (seg : Segment) (page : PageNum) :
    st.isMapped seg page = true ↔ pageKey seg page ∈ st.mapped := by
  simp [Store.isMapped]

/-- A clone reads, line by line, as the page it was cloned from. -/
theorem Store.get_clone (st : Store) (seg : Segment) (page : PageNum) (l : Nat) :
    (st.clone seg page).get l = if l < 32 then st.get seg page l else none := by
  unfold Store.clone Store.get
  by_cases h : st.isMapped seg page = true
  · rw [if_pos h, if_pos h, Memory.get_slice, lineAddr_zero_add]
  · rw [if_neg h, if_neg h]
    simp

theorem Store.isMapped_put (st : Store) (seg : Segment) (page : PageNum) (lines : Memory) (sg : Segment) (pg : PageNum) :
    (st.put seg page lines).isMapped sg pg = (decide (sg = seg ∧ pg = page) || st.isMapped sg pg) := by
  rw [Bool.eq_iff_iff, Store.isMapped_iff, Bool.or_eq_true, Store.isMapped_iff, decide_eq_true_iff]
  simp only [Store.put, mem_insertKey, pageKey_inj]

/-- After a write-back the page reads as the lines written, and every other page as before. -/
theorem Store.get_put (st : Store) (seg : Segment) (page : PageNum) (lines : Memory) (sg : Segment) (pg : PageNum)
    {l : Nat} (hl : l < 32) :
    (st.put seg page lines).get sg pg l = if sg = seg ∧ pg = page then lines.get l else st.get sg pg l := by
  unfold Store.get
  rw [Store.isMapped_put]
  by_cases h : sg = seg ∧ pg = page
  · obtain ⟨rfl, rfl⟩ := h
    simp only [and_self, decide_true, Bool.true_or, if_true, Store.put, Memory.get_putPage]
    rw [if_pos (by unfold lineAddr; omega)]
    congr 1
    unfold lineAddr
    omega
  · have hk : pageKey sg pg ≠ pageKey seg page := fun e => h (pageKey_inj.1 e)
    simp only [h, decide_false, Bool.false_or, if_false, Store.put, Memory.get_putPage]
    have hb : ¬(lineAddr seg page 0 ≤ lineAddr sg pg l ∧ lineAddr sg pg l < lineAddr seg page 0 + 32) := by
      unfold lineAddr
      omega
    rw [if_neg hb]

theorem Store.wf_iff (st : Store) :
    st.wf = true ↔ st.cells.wf = true ∧ keysIn 0 2048 st.mapped = true ∧
      ∀ cell ∈ st.cells, cell.1 / 32 ∈ st.mapped := by
  simp [Store.wf, and_assoc]

theorem Store.wf_empty : Store.empty.wf = true := by decide

theorem Memory.mem_below {hi : Nat} {m : Memory} {e : Host.Cell} (h : e ∈ Memory.below hi m) : e ∈ m := by
  induction m with
  | nil => simp [Memory.below] at h
  | cons x rest ih =>
    obtain ⟨k, w⟩ := x
    simp only [Memory.below] at h
    split at h
    · rcases List.mem_cons.1 h with h | h
      · exact h ▸ List.mem_cons_self
      · exact List.mem_cons_of_mem _ (ih h)
    · exact List.mem_cons_of_mem _ (ih h)

theorem Memory.mem_above {lo : Nat} {m : Memory} {e : Host.Cell} (h : e ∈ Memory.above lo m) : e ∈ m := by
  induction m with
  | nil => simp [Memory.above] at h
  | cons x rest ih =>
    obtain ⟨k, w⟩ := x
    simp only [Memory.above] at h
    split at h
    · rcases List.mem_cons.1 h with h | h
      · exact h ▸ List.mem_cons_self
      · exact List.mem_cons_of_mem _ (ih h)
    · exact List.mem_cons_of_mem _ (ih h)

theorem Memory.mem_shift {base : Nat} {m : Memory} {e : Host.Cell} (h : e ∈ Memory.shift base m) :
    base ≤ e.1 ∧ e.1 < base + 32 := by
  induction m with
  | nil => simp [Memory.shift] at h
  | cons x rest ih =>
    obtain ⟨k, w⟩ := x
    simp only [Memory.shift] at h
    split at h
    · rcases List.mem_cons.1 h with h | h
      · subst h
        exact ⟨by simp, by simpa⟩
      · exact ih h
    · exact ih h

theorem Store.wf_put {st : Store} (h : st.wf = true) (seg : Segment) (page : PageNum) {lines : Memory}
    (hl : lines.wfLines = true) : (st.put seg page lines).wf = true := by
  rw [Store.wf_iff] at h ⊢
  obtain ⟨h1, h2, h3⟩ := h
  have hk := pageKey_lt seg page
  refine ⟨Memory.wf_putPage h1 hl (by unfold lineAddr; omega), keysIn_insertKey h2 (Nat.zero_le _) hk, ?_⟩
  intro cell hc
  simp only [Store.put, mem_insertKey]
  rcases List.mem_append.1 hc with hc | hc
  · exact .inr (h3 cell (Memory.mem_below hc))
  · rcases List.mem_append.1 hc with hc | hc
    · have := Memory.mem_shift hc
      unfold lineAddr at this
      exact .inl (by omega)
    · exact .inr (h3 cell (Memory.mem_above hc))

theorem Store.wfLines_clone {st : Store} (h : st.wf = true) (seg : Segment) (page : PageNum) :
    (st.clone seg page).wfLines = true := by
  unfold Store.clone
  split
  · exact Memory.wfLines_slice ((Store.wf_iff st).1 h).1 _
  · rfl

end Sys2Proof.Machine
end

