-- ==== Sys2Proof/Laws/State.lean ====
section
/-!
SUPPORT. One lemma for each field under each named update of the state: what the update writes, and that it leaves every
other field alone. The conditional updates (`icacheCtl`, `writeBack`, `portStore`, `writeReg`) are in Laws/Ops.lean.
-/
namespace Sys2Proof.Machine

/-! ### `advance` -/

@[simp] theorem State.advance_a (s : State) : (s.advance).a = s.a := rfl
@[simp] theorem State.advance_r1 (s : State) : (s.advance).r1 = s.r1 := rfl
@[simp] theorem State.advance_r2 (s : State) : (s.advance).r2 = s.r2 := rfl
@[simp] theorem State.advance_r3 (s : State) : (s.advance).r3 = s.r3 := rfl
@[simp] theorem State.advance_r4 (s : State) : (s.advance).r4 = s.r4 := rfl
@[simp] theorem State.advance_r5 (s : State) : (s.advance).r5 = s.r5 := rfl
@[simp] theorem State.advance_r6 (s : State) : (s.advance).r6 = s.r6 := rfl
@[simp] theorem State.advance_r7 (s : State) : (s.advance).r7 = s.r7 := rfl
@[simp] theorem State.advance_flags (s : State) : (s.advance).flags = s.flags := rfl
@[simp] theorem State.advance_cmod (s : State) : (s.advance).cmod = s.cmod := rfl
@[simp] theorem State.advance_ptr (s : State) : (s.advance).ptr = s.ptr := rfl
@[simp] theorem State.advance_fwdb (s : State) : (s.advance).fwdb = s.fwdb := rfl
@[simp] theorem State.advance_pstack (s : State) : (s.advance).pstack = s.pstack := rfl
@[simp] theorem State.advance_cstack (s : State) : (s.advance).cstack = s.cstack := rfl
@[simp] theorem State.advance_line (s : State) : (s.advance).line = s.line + 1 := rfl
@[simp] theorem State.advance_islot (s : State) : (s.advance).islot = s.islot := rfl
@[simp] theorem State.advance_dslot (s : State) : (s.advance).dslot = s.dslot := rfl
@[simp] theorem State.advance_store (s : State) : (s.advance).store = s.store := rfl
@[simp] theorem State.advance_iseg (s : State) : (s.advance).iseg = s.iseg := rfl
@[simp] theorem State.advance_ds (s : State) : (s.advance).ds = s.ds := rfl
@[simp] theorem State.advance_kds (s : State) : (s.advance).kds = s.kds := rfl
@[simp] theorem State.advance_pid (s : State) : (s.advance).pid = s.pid := rfl
@[simp] theorem State.advance_mode (s : State) : (s.advance).mode = s.mode := rfl
@[simp] theorem State.advance_eu (s : State) : (s.advance).eu = .fetch := rfl
@[simp] theorem State.advance_halted (s : State) : (s.advance).halted = s.halted := rfl
@[simp] theorem State.advance_fault (s : State) : (s.advance).fault = s.fault := rfl
@[simp] theorem State.advance_events (s : State) : (s.advance).events = s.events := rfl
@[simp] theorem State.advance_cfg (s : State) : (s.advance).cfg = s.cfg := rfl
@[simp] theorem State.advance_portAnswers (s : State) : (s.advance).portAnswers = s.portAnswers := rfl
@[simp] theorem State.advance_portLoads (s : State) : (s.advance).portLoads = s.portLoads := rfl

/-! ### `goto` -/

@[simp] theorem State.goto_a (s : State) (line : Nat) : (s.goto line).a = s.a := rfl
@[simp] theorem State.goto_r1 (s : State) (line : Nat) : (s.goto line).r1 = s.r1 := rfl
@[simp] theorem State.goto_r2 (s : State) (line : Nat) : (s.goto line).r2 = s.r2 := rfl
@[simp] theorem State.goto_r3 (s : State) (line : Nat) : (s.goto line).r3 = s.r3 := rfl
@[simp] theorem State.goto_r4 (s : State) (line : Nat) : (s.goto line).r4 = s.r4 := rfl
@[simp] theorem State.goto_r5 (s : State) (line : Nat) : (s.goto line).r5 = s.r5 := rfl
@[simp] theorem State.goto_r6 (s : State) (line : Nat) : (s.goto line).r6 = s.r6 := rfl
@[simp] theorem State.goto_r7 (s : State) (line : Nat) : (s.goto line).r7 = s.r7 := rfl
@[simp] theorem State.goto_flags (s : State) (line : Nat) : (s.goto line).flags = s.flags := rfl
@[simp] theorem State.goto_cmod (s : State) (line : Nat) : (s.goto line).cmod = s.cmod := rfl
@[simp] theorem State.goto_ptr (s : State) (line : Nat) : (s.goto line).ptr = s.ptr := rfl
@[simp] theorem State.goto_fwdb (s : State) (line : Nat) : (s.goto line).fwdb = s.fwdb := rfl
@[simp] theorem State.goto_pstack (s : State) (line : Nat) : (s.goto line).pstack = s.pstack := rfl
@[simp] theorem State.goto_cstack (s : State) (line : Nat) : (s.goto line).cstack = s.cstack := rfl
@[simp] theorem State.goto_line (s : State) (line : Nat) : (s.goto line).line = line := rfl
@[simp] theorem State.goto_islot (s : State) (line : Nat) : (s.goto line).islot = s.islot := rfl
@[simp] theorem State.goto_dslot (s : State) (line : Nat) : (s.goto line).dslot = s.dslot := rfl
@[simp] theorem State.goto_store (s : State) (line : Nat) : (s.goto line).store = s.store := rfl
@[simp] theorem State.goto_iseg (s : State) (line : Nat) : (s.goto line).iseg = s.iseg := rfl
@[simp] theorem State.goto_ds (s : State) (line : Nat) : (s.goto line).ds = s.ds := rfl
@[simp] theorem State.goto_kds (s : State) (line : Nat) : (s.goto line).kds = s.kds := rfl
@[simp] theorem State.goto_pid (s : State) (line : Nat) : (s.goto line).pid = s.pid := rfl
@[simp] theorem State.goto_mode (s : State) (line : Nat) : (s.goto line).mode = s.mode := rfl
@[simp] theorem State.goto_eu (s : State) (line : Nat) : (s.goto line).eu = .fetch := rfl
@[simp] theorem State.goto_halted (s : State) (line : Nat) : (s.goto line).halted = s.halted := rfl
@[simp] theorem State.goto_fault (s : State) (line : Nat) : (s.goto line).fault = s.fault := rfl
@[simp] theorem State.goto_events (s : State) (line : Nat) : (s.goto line).events = s.events := rfl
@[simp] theorem State.goto_cfg (s : State) (line : Nat) : (s.goto line).cfg = s.cfg := rfl
@[simp] theorem State.goto_portAnswers (s : State) (line : Nat) : (s.goto line).portAnswers = s.portAnswers := rfl
@[simp] theorem State.goto_portLoads (s : State) (line : Nat) : (s.goto line).portLoads = s.portLoads := rfl

/-! ### `raise` -/

@[simp] theorem State.raise_a (s : State) (code : Fatal) : (s.raise code).a = s.a := rfl
@[simp] theorem State.raise_r1 (s : State) (code : Fatal) : (s.raise code).r1 = s.r1 := rfl
@[simp] theorem State.raise_r2 (s : State) (code : Fatal) : (s.raise code).r2 = s.r2 := rfl
@[simp] theorem State.raise_r3 (s : State) (code : Fatal) : (s.raise code).r3 = s.r3 := rfl
@[simp] theorem State.raise_r4 (s : State) (code : Fatal) : (s.raise code).r4 = s.r4 := rfl
@[simp] theorem State.raise_r5 (s : State) (code : Fatal) : (s.raise code).r5 = s.r5 := rfl
@[simp] theorem State.raise_r6 (s : State) (code : Fatal) : (s.raise code).r6 = s.r6 := rfl
@[simp] theorem State.raise_r7 (s : State) (code : Fatal) : (s.raise code).r7 = s.r7 := rfl
@[simp] theorem State.raise_flags (s : State) (code : Fatal) : (s.raise code).flags = s.flags := rfl
@[simp] theorem State.raise_cmod (s : State) (code : Fatal) : (s.raise code).cmod = s.cmod := rfl
@[simp] theorem State.raise_ptr (s : State) (code : Fatal) : (s.raise code).ptr = s.ptr := rfl
@[simp] theorem State.raise_fwdb (s : State) (code : Fatal) : (s.raise code).fwdb = s.fwdb := rfl
@[simp] theorem State.raise_pstack (s : State) (code : Fatal) : (s.raise code).pstack = s.pstack := rfl
@[simp] theorem State.raise_cstack (s : State) (code : Fatal) : (s.raise code).cstack = s.cstack := rfl
@[simp] theorem State.raise_line (s : State) (code : Fatal) : (s.raise code).line = s.line := rfl
@[simp] theorem State.raise_islot (s : State) (code : Fatal) : (s.raise code).islot = s.islot := rfl
@[simp] theorem State.raise_dslot (s : State) (code : Fatal) : (s.raise code).dslot = s.dslot := rfl
@[simp] theorem State.raise_store (s : State) (code : Fatal) : (s.raise code).store = s.store := rfl
@[simp] theorem State.raise_iseg (s : State) (code : Fatal) : (s.raise code).iseg = s.iseg := rfl
@[simp] theorem State.raise_ds (s : State) (code : Fatal) : (s.raise code).ds = s.ds := rfl
@[simp] theorem State.raise_kds (s : State) (code : Fatal) : (s.raise code).kds = s.kds := rfl
@[simp] theorem State.raise_pid (s : State) (code : Fatal) : (s.raise code).pid = s.pid := rfl
@[simp] theorem State.raise_mode (s : State) (code : Fatal) : (s.raise code).mode = s.mode := rfl
@[simp] theorem State.raise_eu (s : State) (code : Fatal) : (s.raise code).eu = s.eu := rfl
@[simp] theorem State.raise_halted (s : State) (code : Fatal) : (s.raise code).halted = s.halted := rfl
@[simp] theorem State.raise_fault (s : State) (code : Fatal) : (s.raise code).fault = some code := rfl
@[simp] theorem State.raise_events (s : State) (code : Fatal) : (s.raise code).events = s.events := rfl
@[simp] theorem State.raise_cfg (s : State) (code : Fatal) : (s.raise code).cfg = s.cfg := rfl
@[simp] theorem State.raise_portAnswers (s : State) (code : Fatal) : (s.raise code).portAnswers = s.portAnswers := rfl
@[simp] theorem State.raise_portLoads (s : State) (code : Fatal) : (s.raise code).portLoads = s.portLoads := rfl

/-! ### `halt` -/

@[simp] theorem State.halt_a (s : State) : (s.halt).a = s.a := rfl
@[simp] theorem State.halt_r1 (s : State) : (s.halt).r1 = s.r1 := rfl
@[simp] theorem State.halt_r2 (s : State) : (s.halt).r2 = s.r2 := rfl
@[simp] theorem State.halt_r3 (s : State) : (s.halt).r3 = s.r3 := rfl
@[simp] theorem State.halt_r4 (s : State) : (s.halt).r4 = s.r4 := rfl
@[simp] theorem State.halt_r5 (s : State) : (s.halt).r5 = s.r5 := rfl
@[simp] theorem State.halt_r6 (s : State) : (s.halt).r6 = s.r6 := rfl
@[simp] theorem State.halt_r7 (s : State) : (s.halt).r7 = s.r7 := rfl
@[simp] theorem State.halt_flags (s : State) : (s.halt).flags = s.flags := rfl
@[simp] theorem State.halt_cmod (s : State) : (s.halt).cmod = s.cmod := rfl
@[simp] theorem State.halt_ptr (s : State) : (s.halt).ptr = s.ptr := rfl
@[simp] theorem State.halt_fwdb (s : State) : (s.halt).fwdb = s.fwdb := rfl
@[simp] theorem State.halt_pstack (s : State) : (s.halt).pstack = s.pstack := rfl
@[simp] theorem State.halt_cstack (s : State) : (s.halt).cstack = s.cstack := rfl
@[simp] theorem State.halt_line (s : State) : (s.halt).line = s.line := rfl
@[simp] theorem State.halt_islot (s : State) : (s.halt).islot = s.islot := rfl
@[simp] theorem State.halt_dslot (s : State) : (s.halt).dslot = s.dslot := rfl
@[simp] theorem State.halt_store (s : State) : (s.halt).store = s.store := rfl
@[simp] theorem State.halt_iseg (s : State) : (s.halt).iseg = s.iseg := rfl
@[simp] theorem State.halt_ds (s : State) : (s.halt).ds = s.ds := rfl
@[simp] theorem State.halt_kds (s : State) : (s.halt).kds = s.kds := rfl
@[simp] theorem State.halt_pid (s : State) : (s.halt).pid = s.pid := rfl
@[simp] theorem State.halt_mode (s : State) : (s.halt).mode = s.mode := rfl
@[simp] theorem State.halt_eu (s : State) : (s.halt).eu = s.eu := rfl
@[simp] theorem State.halt_halted (s : State) : (s.halt).halted = true := rfl
@[simp] theorem State.halt_fault (s : State) : (s.halt).fault = s.fault := rfl
@[simp] theorem State.halt_events (s : State) : (s.halt).events = s.events := rfl
@[simp] theorem State.halt_cfg (s : State) : (s.halt).cfg = s.cfg := rfl
@[simp] theorem State.halt_portAnswers (s : State) : (s.halt).portAnswers = s.portAnswers := rfl
@[simp] theorem State.halt_portLoads (s : State) : (s.halt).portLoads = s.portLoads := rfl

/-! ### `pushP` -/

@[simp] theorem State.pushP_a (s : State) (v : Byte) : (s.pushP v).a = s.a := rfl
@[simp] theorem State.pushP_r1 (s : State) (v : Byte) : (s.pushP v).r1 = s.r1 := rfl
@[simp] theorem State.pushP_r2 (s : State) (v : Byte) : (s.pushP v).r2 = s.r2 := rfl
@[simp] theorem State.pushP_r3 (s : State) (v : Byte) : (s.pushP v).r3 = s.r3 := rfl
@[simp] theorem State.pushP_r4 (s : State) (v : Byte) : (s.pushP v).r4 = s.r4 := rfl
@[simp] theorem State.pushP_r5 (s : State) (v : Byte) : (s.pushP v).r5 = s.r5 := rfl
@[simp] theorem State.pushP_r6 (s : State) (v : Byte) : (s.pushP v).r6 = s.r6 := rfl
@[simp] theorem State.pushP_r7 (s : State) (v : Byte) : (s.pushP v).r7 = s.r7 := rfl
@[simp] theorem State.pushP_flags (s : State) (v : Byte) : (s.pushP v).flags = s.flags := rfl
@[simp] theorem State.pushP_cmod (s : State) (v : Byte) : (s.pushP v).cmod = s.cmod := rfl
@[simp] theorem State.pushP_ptr (s : State) (v : Byte) : (s.pushP v).ptr = s.ptr := rfl
@[simp] theorem State.pushP_fwdb (s : State) (v : Byte) : (s.pushP v).fwdb = s.fwdb := rfl
@[simp] theorem State.pushP_pstack (s : State) (v : Byte) : (s.pushP v).pstack = v :: s.pstack := rfl
@[simp] theorem State.pushP_cstack (s : State) (v : Byte) : (s.pushP v).cstack = s.cstack := rfl
@[simp] theorem State.pushP_line (s : State) (v : Byte) : (s.pushP v).line = s.line := rfl
@[simp] theorem State.pushP_islot (s : State) (v : Byte) : (s.pushP v).islot = s.islot := rfl
@[simp] theorem State.pushP_dslot (s : State) (v : Byte) : (s.pushP v).dslot = s.dslot := rfl
@[simp] theorem State.pushP_store (s : State) (v : Byte) : (s.pushP v).store = s.store := rfl
@[simp] theorem State.pushP_iseg (s : State) (v : Byte) : (s.pushP v).iseg = s.iseg := rfl
@[simp] theorem State.pushP_ds (s : State) (v : Byte) : (s.pushP v).ds = s.ds := rfl
@[simp] theorem State.pushP_kds (s : State) (v : Byte) : (s.pushP v).kds = s.kds := rfl
@[simp] theorem State.pushP_pid (s : State) (v : Byte) : (s.pushP v).pid = s.pid := rfl
@[simp] theorem State.pushP_mode (s : State) (v : Byte) : (s.pushP v).mode = s.mode := rfl
@[simp] theorem State.pushP_eu (s : State) (v : Byte) : (s.pushP v).eu = s.eu := rfl
@[simp] theorem State.pushP_halted (s : State) (v : Byte) : (s.pushP v).halted = s.halted := rfl
@[simp] theorem State.pushP_fault (s : State) (v : Byte) : (s.pushP v).fault = s.fault := rfl
@[simp] theorem State.pushP_events (s : State) (v : Byte) : (s.pushP v).events = s.events := rfl
@[simp] theorem State.pushP_cfg (s : State) (v : Byte) : (s.pushP v).cfg = s.cfg := rfl
@[simp] theorem State.pushP_portAnswers (s : State) (v : Byte) : (s.pushP v).portAnswers = s.portAnswers := rfl
@[simp] theorem State.pushP_portLoads (s : State) (v : Byte) : (s.pushP v).portLoads = s.portLoads := rfl

/-! ### `pushC` -/

@[simp] theorem State.pushC_a (s : State) (v : Byte) : (s.pushC v).a = s.a := rfl
@[simp] theorem State.pushC_r1 (s : State) (v : Byte) : (s.pushC v).r1 = s.r1 := rfl
@[simp] theorem State.pushC_r2 (s : State) (v : Byte) : (s.pushC v).r2 = s.r2 := rfl
@[simp] theorem State.pushC_r3 (s : State) (v : Byte) : (s.pushC v).r3 = s.r3 := rfl
@[simp] theorem State.pushC_r4 (s : State) (v : Byte) : (s.pushC v).r4 = s.r4 := rfl
@[simp] theorem State.pushC_r5 (s : State) (v : Byte) : (s.pushC v).r5 = s.r5 := rfl
@[simp] theorem State.pushC_r6 (s : State) (v : Byte) : (s.pushC v).r6 = s.r6 := rfl
@[simp] theorem State.pushC_r7 (s : State) (v : Byte) : (s.pushC v).r7 = s.r7 := rfl
@[simp] theorem State.pushC_flags (s : State) (v : Byte) : (s.pushC v).flags = s.flags := rfl
@[simp] theorem State.pushC_cmod (s : State) (v : Byte) : (s.pushC v).cmod = s.cmod := rfl
@[simp] theorem State.pushC_ptr (s : State) (v : Byte) : (s.pushC v).ptr = s.ptr := rfl
@[simp] theorem State.pushC_fwdb (s : State) (v : Byte) : (s.pushC v).fwdb = s.fwdb := rfl
@[simp] theorem State.pushC_pstack (s : State) (v : Byte) : (s.pushC v).pstack = s.pstack := rfl
@[simp] theorem State.pushC_cstack (s : State) (v : Byte) : (s.pushC v).cstack = v :: s.cstack := rfl
@[simp] theorem State.pushC_line (s : State) (v : Byte) : (s.pushC v).line = s.line := rfl
@[simp] theorem State.pushC_islot (s : State) (v : Byte) : (s.pushC v).islot = s.islot := rfl
@[simp] theorem State.pushC_dslot (s : State) (v : Byte) : (s.pushC v).dslot = s.dslot := rfl
@[simp] theorem State.pushC_store (s : State) (v : Byte) : (s.pushC v).store = s.store := rfl
@[simp] theorem State.pushC_iseg (s : State) (v : Byte) : (s.pushC v).iseg = s.iseg := rfl
@[simp] theorem State.pushC_ds (s : State) (v : Byte) : (s.pushC v).ds = s.ds := rfl
@[simp] theorem State.pushC_kds (s : State) (v : Byte) : (s.pushC v).kds = s.kds := rfl
@[simp] theorem State.pushC_pid (s : State) (v : Byte) : (s.pushC v).pid = s.pid := rfl
@[simp] theorem State.pushC_mode (s : State) (v : Byte) : (s.pushC v).mode = s.mode := rfl
@[simp] theorem State.pushC_eu (s : State) (v : Byte) : (s.pushC v).eu = s.eu := rfl
@[simp] theorem State.pushC_halted (s : State) (v : Byte) : (s.pushC v).halted = s.halted := rfl
@[simp] theorem State.pushC_fault (s : State) (v : Byte) : (s.pushC v).fault = s.fault := rfl
@[simp] theorem State.pushC_events (s : State) (v : Byte) : (s.pushC v).events = s.events := rfl
@[simp] theorem State.pushC_cfg (s : State) (v : Byte) : (s.pushC v).cfg = s.cfg := rfl
@[simp] theorem State.pushC_portAnswers (s : State) (v : Byte) : (s.pushC v).portAnswers = s.portAnswers := rfl
@[simp] theorem State.pushC_portLoads (s : State) (v : Byte) : (s.pushC v).portLoads = s.portLoads := rfl

/-! ### `dropP` -/

@[simp] theorem State.dropP_a (s : State) : (s.dropP).a = s.a := rfl
@[simp] theorem State.dropP_r1 (s : State) : (s.dropP).r1 = s.r1 := rfl
@[simp] theorem State.dropP_r2 (s : State) : (s.dropP).r2 = s.r2 := rfl
@[simp] theorem State.dropP_r3 (s : State) : (s.dropP).r3 = s.r3 := rfl
@[simp] theorem State.dropP_r4 (s : State) : (s.dropP).r4 = s.r4 := rfl
@[simp] theorem State.dropP_r5 (s : State) : (s.dropP).r5 = s.r5 := rfl
@[simp] theorem State.dropP_r6 (s : State) : (s.dropP).r6 = s.r6 := rfl
@[simp] theorem State.dropP_r7 (s : State) : (s.dropP).r7 = s.r7 := rfl
@[simp] theorem State.dropP_flags (s : State) : (s.dropP).flags = s.flags := rfl
@[simp] theorem State.dropP_cmod (s : State) : (s.dropP).cmod = s.cmod := rfl
@[simp] theorem State.dropP_ptr (s : State) : (s.dropP).ptr = s.ptr := rfl
@[simp] theorem State.dropP_fwdb (s : State) : (s.dropP).fwdb = s.fwdb := rfl
@[simp] theorem State.dropP_pstack (s : State) : (s.dropP).pstack = s.pstack.tail := rfl
@[simp] theorem State.dropP_cstack (s : State) : (s.dropP).cstack = s.cstack := rfl
@[simp] theorem State.dropP_line (s : State) : (s.dropP).line = s.line := rfl
@[simp] theorem State.dropP_islot (s : State) : (s.dropP).islot = s.islot := rfl
@[simp] theorem State.dropP_dslot (s : State) : (s.dropP).dslot = s.dslot := rfl
@[simp] theorem State.dropP_store (s : State) : (s.dropP).store = s.store := rfl
@[simp] theorem State.dropP_iseg (s : State) : (s.dropP).iseg = s.iseg := rfl
@[simp] theorem State.dropP_ds (s : State) : (s.dropP).ds = s.ds := rfl
@[simp] theorem State.dropP_kds (s : State) : (s.dropP).kds = s.kds := rfl
@[simp] theorem State.dropP_pid (s : State) : (s.dropP).pid = s.pid := rfl
@[simp] theorem State.dropP_mode (s : State) : (s.dropP).mode = s.mode := rfl
@[simp] theorem State.dropP_eu (s : State) : (s.dropP).eu = s.eu := rfl
@[simp] theorem State.dropP_halted (s : State) : (s.dropP).halted = s.halted := rfl
@[simp] theorem State.dropP_fault (s : State) : (s.dropP).fault = s.fault := rfl
@[simp] theorem State.dropP_events (s : State) : (s.dropP).events = s.events := rfl
@[simp] theorem State.dropP_cfg (s : State) : (s.dropP).cfg = s.cfg := rfl
@[simp] theorem State.dropP_portAnswers (s : State) : (s.dropP).portAnswers = s.portAnswers := rfl
@[simp] theorem State.dropP_portLoads (s : State) : (s.dropP).portLoads = s.portLoads := rfl

/-! ### `dropC` -/

@[simp] theorem State.dropC_a (s : State) : (s.dropC).a = s.a := rfl
@[simp] theorem State.dropC_r1 (s : State) : (s.dropC).r1 = s.r1 := rfl
@[simp] theorem State.dropC_r2 (s : State) : (s.dropC).r2 = s.r2 := rfl
@[simp] theorem State.dropC_r3 (s : State) : (s.dropC).r3 = s.r3 := rfl
@[simp] theorem State.dropC_r4 (s : State) : (s.dropC).r4 = s.r4 := rfl
@[simp] theorem State.dropC_r5 (s : State) : (s.dropC).r5 = s.r5 := rfl
@[simp] theorem State.dropC_r6 (s : State) : (s.dropC).r6 = s.r6 := rfl
@[simp] theorem State.dropC_r7 (s : State) : (s.dropC).r7 = s.r7 := rfl
@[simp] theorem State.dropC_flags (s : State) : (s.dropC).flags = s.flags := rfl
@[simp] theorem State.dropC_cmod (s : State) : (s.dropC).cmod = s.cmod := rfl
@[simp] theorem State.dropC_ptr (s : State) : (s.dropC).ptr = s.ptr := rfl
@[simp] theorem State.dropC_fwdb (s : State) : (s.dropC).fwdb = s.fwdb := rfl
@[simp] theorem State.dropC_pstack (s : State) : (s.dropC).pstack = s.pstack := rfl
@[simp] theorem State.dropC_cstack (s : State) : (s.dropC).cstack = s.cstack.tail := rfl
@[simp] theorem State.dropC_line (s : State) : (s.dropC).line = s.line := rfl
@[simp] theorem State.dropC_islot (s : State) : (s.dropC).islot = s.islot := rfl
@[simp] theorem State.dropC_dslot (s : State) : (s.dropC).dslot = s.dslot := rfl
@[simp] theorem State.dropC_store (s : State) : (s.dropC).store = s.store := rfl
@[simp] theorem State.dropC_iseg (s : State) : (s.dropC).iseg = s.iseg := rfl
@[simp] theorem State.dropC_ds (s : State) : (s.dropC).ds = s.ds := rfl
@[simp] theorem State.dropC_kds (s : State) : (s.dropC).kds = s.kds := rfl
@[simp] theorem State.dropC_pid (s : State) : (s.dropC).pid = s.pid := rfl
@[simp] theorem State.dropC_mode (s : State) : (s.dropC).mode = s.mode := rfl
@[simp] theorem State.dropC_eu (s : State) : (s.dropC).eu = s.eu := rfl
@[simp] theorem State.dropC_halted (s : State) : (s.dropC).halted = s.halted := rfl
@[simp] theorem State.dropC_fault (s : State) : (s.dropC).fault = s.fault := rfl
@[simp] theorem State.dropC_events (s : State) : (s.dropC).events = s.events := rfl
@[simp] theorem State.dropC_cfg (s : State) : (s.dropC).cfg = s.cfg := rfl
@[simp] theorem State.dropC_portAnswers (s : State) : (s.dropC).portAnswers = s.portAnswers := rfl
@[simp] theorem State.dropC_portLoads (s : State) : (s.dropC).portLoads = s.portLoads := rfl

/-! ### `writeAcc` -/

@[simp] theorem State.writeAcc_a (s : State) (V : Int) : (s.writeAcc V).a = BitVec.ofInt 8 V := rfl
@[simp] theorem State.writeAcc_r1 (s : State) (V : Int) : (s.writeAcc V).r1 = s.r1 := rfl
@[simp] theorem State.writeAcc_r2 (s : State) (V : Int) : (s.writeAcc V).r2 = s.r2 := rfl
@[simp] theorem State.writeAcc_r3 (s : State) (V : Int) : (s.writeAcc V).r3 = s.r3 := rfl
@[simp] theorem State.writeAcc_r4 (s : State) (V : Int) : (s.writeAcc V).r4 = s.r4 := rfl
@[simp] theorem State.writeAcc_r5 (s : State) (V : Int) : (s.writeAcc V).r5 = s.r5 := rfl
@[simp] theorem State.writeAcc_r6 (s : State) (V : Int) : (s.writeAcc V).r6 = s.r6 := rfl
@[simp] theorem State.writeAcc_r7 (s : State) (V : Int) : (s.writeAcc V).r7 = s.r7 := rfl
@[simp] theorem State.writeAcc_flags (s : State) (V : Int) : (s.writeAcc V).flags = accFlags V s.a := rfl
@[simp] theorem State.writeAcc_cmod (s : State) (V : Int) : (s.writeAcc V).cmod = s.cmod := rfl
@[simp] theorem State.writeAcc_ptr (s : State) (V : Int) : (s.writeAcc V).ptr = s.ptr := rfl
@[simp] theorem State.writeAcc_fwdb (s : State) (V : Int) : (s.writeAcc V).fwdb = s.fwdb := rfl
@[simp] theorem State.writeAcc_pstack (s : State) (V : Int) : (s.writeAcc V).pstack = s.pstack := rfl
@[simp] theorem State.writeAcc_cstack (s : State) (V : Int) : (s.writeAcc V).cstack = s.cstack := rfl
@[simp] theorem State.writeAcc_line (s : State) (V : Int) : (s.writeAcc V).line = s.line := rfl
@[simp] theorem State.writeAcc_islot (s : State) (V : Int) : (s.writeAcc V).islot = s.islot := rfl
@[simp] theorem State.writeAcc_dslot (s : State) (V : Int) : (s.writeAcc V).dslot = s.dslot := rfl
@[simp] theorem State.writeAcc_store (s : State) (V : Int) : (s.writeAcc V).store = s.store := rfl
@[simp] theorem State.writeAcc_iseg (s : State) (V : Int) : (s.writeAcc V).iseg = s.iseg := rfl
@[simp] theorem State.writeAcc_ds (s : State) (V : Int) : (s.writeAcc V).ds = s.ds := rfl
@[simp] theorem State.writeAcc_kds (s : State) (V : Int) : (s.writeAcc V).kds = s.kds := rfl
@[simp] theorem State.writeAcc_pid (s : State) (V : Int) : (s.writeAcc V).pid = s.pid := rfl
@[simp] theorem State.writeAcc_mode (s : State) (V : Int) : (s.writeAcc V).mode = s.mode := rfl
@[simp] theorem State.writeAcc_eu (s : State) (V : Int) : (s.writeAcc V).eu = s.eu := rfl
@[simp] theorem State.writeAcc_halted (s : State) (V : Int) : (s.writeAcc V).halted = s.halted := rfl
@[simp] theorem State.writeAcc_fault (s : State) (V : Int) : (s.writeAcc V).fault = s.fault := rfl
@[simp] theorem State.writeAcc_events (s : State) (V : Int) : (s.writeAcc V).events = s.events := rfl
@[simp] theorem State.writeAcc_cfg (s : State) (V : Int) : (s.writeAcc V).cfg = s.cfg := rfl
@[simp] theorem State.writeAcc_portAnswers (s : State) (V : Int) : (s.writeAcc V).portAnswers = s.portAnswers := rfl
@[simp] theorem State.writeAcc_portLoads (s : State) (V : Int) : (s.writeAcc V).portLoads = s.portLoads := rfl

/-! ### `clearModifiers` -/

@[simp] theorem State.clearModifiers_a (s : State) : (s.clearModifiers).a = s.a := rfl
@[simp] theorem State.clearModifiers_r1 (s : State) : (s.clearModifiers).r1 = s.r1 := rfl
@[simp] theorem State.clearModifiers_r2 (s : State) : (s.clearModifiers).r2 = s.r2 := rfl
@[simp] theorem State.clearModifiers_r3 (s : State) : (s.clearModifiers).r3 = s.r3 := rfl
@[simp] theorem State.clearModifiers_r4 (s : State) : (s.clearModifiers).r4 = s.r4 := rfl
@[simp] theorem State.clearModifiers_r5 (s : State) : (s.clearModifiers).r5 = s.r5 := rfl
@[simp] theorem State.clearModifiers_r6 (s : State) : (s.clearModifiers).r6 = s.r6 := rfl
@[simp] theorem State.clearModifiers_r7 (s : State) : (s.clearModifiers).r7 = s.r7 := rfl
@[simp] theorem State.clearModifiers_flags (s : State) : (s.clearModifiers).flags = s.flags := rfl
@[simp] theorem State.clearModifiers_cmod (s : State) : (s.clearModifiers).cmod = s.cmod := rfl
@[simp] theorem State.clearModifiers_ptr (s : State) : (s.clearModifiers).ptr = 0#8 := rfl
@[simp] theorem State.clearModifiers_fwdb (s : State) : (s.clearModifiers).fwdb = false := rfl
@[simp] theorem State.clearModifiers_pstack (s : State) : (s.clearModifiers).pstack = s.pstack := rfl
@[simp] theorem State.clearModifiers_cstack (s : State) : (s.clearModifiers).cstack = s.cstack := rfl
@[simp] theorem State.clearModifiers_line (s : State) : (s.clearModifiers).line = s.line := rfl
@[simp] theorem State.clearModifiers_islot (s : State) : (s.clearModifiers).islot = s.islot := rfl
@[simp] theorem State.clearModifiers_dslot (s : State) : (s.clearModifiers).dslot = s.dslot := rfl
@[simp] theorem State.clearModifiers_store (s : State) : (s.clearModifiers).store = s.store := rfl
@[simp] theorem State.clearModifiers_iseg (s : State) : (s.clearModifiers).iseg = s.iseg := rfl
@[simp] theorem State.clearModifiers_ds (s : State) : (s.clearModifiers).ds = s.ds := rfl
@[simp] theorem State.clearModifiers_kds (s : State) : (s.clearModifiers).kds = s.kds := rfl
@[simp] theorem State.clearModifiers_pid (s : State) : (s.clearModifiers).pid = s.pid := rfl
@[simp] theorem State.clearModifiers_mode (s : State) : (s.clearModifiers).mode = s.mode := rfl
@[simp] theorem State.clearModifiers_eu (s : State) : (s.clearModifiers).eu = s.eu := rfl
@[simp] theorem State.clearModifiers_halted (s : State) : (s.clearModifiers).halted = s.halted := rfl
@[simp] theorem State.clearModifiers_fault (s : State) : (s.clearModifiers).fault = s.fault := rfl
@[simp] theorem State.clearModifiers_events (s : State) : (s.clearModifiers).events = s.events := rfl
@[simp] theorem State.clearModifiers_cfg (s : State) : (s.clearModifiers).cfg = s.cfg := rfl
@[simp] theorem State.clearModifiers_portAnswers (s : State) : (s.clearModifiers).portAnswers = s.portAnswers := rfl
@[simp] theorem State.clearModifiers_portLoads (s : State) : (s.clearModifiers).portLoads = s.portLoads := rfl

/-! ### `loadData` -/

@[simp] theorem State.loadData_a (s : State) (seg : Segment) (page : PageNum) : (s.loadData seg page).a = s.a := rfl
@[simp] theorem State.loadData_r1 (s : State) (seg : Segment) (page : PageNum) : (s.loadData seg page).r1 = s.r1 := rfl
@[simp] theorem State.loadData_r2 (s : State) (seg : Segment) (page : PageNum) : (s.loadData seg page).r2 = s.r2 := rfl
@[simp] theorem State.loadData_r3 (s : State) (seg : Segment) (page : PageNum) : (s.loadData seg page).r3 = s.r3 := rfl
@[simp] theorem State.loadData_r4 (s : State) (seg : Segment) (page : PageNum) : (s.loadData seg page).r4 = s.r4 := rfl
@[simp] theorem State.loadData_r5 (s : State) (seg : Segment) (page : PageNum) : (s.loadData seg page).r5 = s.r5 := rfl
@[simp] theorem State.loadData_r6 (s : State) (seg : Segment) (page : PageNum) : (s.loadData seg page).r6 = s.r6 := rfl
@[simp] theorem State.loadData_r7 (s : State) (seg : Segment) (page : PageNum) : (s.loadData seg page).r7 = s.r7 := rfl
@[simp] theorem State.loadData_flags (s : State) (seg : Segment) (page : PageNum) : (s.loadData seg page).flags = s.flags := rfl
@[simp] theorem State.loadData_cmod (s : State) (seg : Segment) (page : PageNum) : (s.loadData seg page).cmod = s.cmod := rfl
@[simp] theorem State.loadData_ptr (s : State) (seg : Segment) (page : PageNum) : (s.loadData seg page).ptr = s.ptr := rfl
@[simp] theorem State.loadData_fwdb (s : State) (seg : Segment) (page : PageNum) : (s.loadData seg page).fwdb = s.fwdb := rfl
@[simp] theorem State.loadData_pstack (s : State) (seg : Segment) (page : PageNum) : (s.loadData seg page).pstack = s.pstack := rfl
@[simp] theorem State.loadData_cstack (s : State) (seg : Segment) (page : PageNum) : (s.loadData seg page).cstack = s.cstack := rfl
@[simp] theorem State.loadData_line (s : State) (seg : Segment) (page : PageNum) : (s.loadData seg page).line = s.line := rfl
@[simp] theorem State.loadData_islot (s : State) (seg : Segment) (page : PageNum) : (s.loadData seg page).islot = s.islot := rfl
@[simp] theorem State.loadData_dslot (s : State) (seg : Segment) (page : PageNum) : (s.loadData seg page).dslot = { seg := seg, page := page, valid := true, dirty := false, lines := s.store.clone seg page } := rfl
@[simp] theorem State.loadData_store (s : State) (seg : Segment) (page : PageNum) : (s.loadData seg page).store = s.store := rfl
@[simp] theorem State.loadData_iseg (s : State) (seg : Segment) (page : PageNum) : (s.loadData seg page).iseg = s.iseg := rfl
@[simp] theorem State.loadData_ds (s : State) (seg : Segment) (page : PageNum) : (s.loadData seg page).ds = s.ds := rfl
@[simp] theorem State.loadData_kds (s : State) (seg : Segment) (page : PageNum) : (s.loadData seg page).kds = s.kds := rfl
@[simp] theorem State.loadData_pid (s : State) (seg : Segment) (page : PageNum) : (s.loadData seg page).pid = s.pid := rfl
@[simp] theorem State.loadData_mode (s : State) (seg : Segment) (page : PageNum) : (s.loadData seg page).mode = s.mode := rfl
@[simp] theorem State.loadData_eu (s : State) (seg : Segment) (page : PageNum) : (s.loadData seg page).eu = s.eu := rfl
@[simp] theorem State.loadData_halted (s : State) (seg : Segment) (page : PageNum) : (s.loadData seg page).halted = s.halted := rfl
@[simp] theorem State.loadData_fault (s : State) (seg : Segment) (page : PageNum) : (s.loadData seg page).fault = s.fault := rfl
@[simp] theorem State.loadData_events (s : State) (seg : Segment) (page : PageNum) : (s.loadData seg page).events = s.events := rfl
@[simp] theorem State.loadData_cfg (s : State) (seg : Segment) (page : PageNum) : (s.loadData seg page).cfg = s.cfg := rfl
@[simp] theorem State.loadData_portAnswers (s : State) (seg : Segment) (page : PageNum) : (s.loadData seg page).portAnswers = s.portAnswers := rfl
@[simp] theorem State.loadData_portLoads (s : State) (seg : Segment) (page : PageNum) : (s.loadData seg page).portLoads = s.portLoads := rfl

/-! ### `writeLine` -/

@[simp] theorem State.writeLine_a (s : State) (addr v : Byte) : (s.writeLine addr v).a = s.a := rfl
@[simp] theorem State.writeLine_r1 (s : State) (addr v : Byte) : (s.writeLine addr v).r1 = s.r1 := rfl
@[simp] theorem State.writeLine_r2 (s : State) (addr v : Byte) : (s.writeLine addr v).r2 = s.r2 := rfl
@[simp] theorem State.writeLine_r3 (s : State) (addr v : Byte) : (s.writeLine addr v).r3 = s.r3 := rfl
@[simp] theorem State.writeLine_r4 (s : State) (addr v : Byte) : (s.writeLine addr v).r4 = s.r4 := rfl
@[simp] theorem State.writeLine_r5 (s : State) (addr v : Byte) : (s.writeLine addr v).r5 = s.r5 := rfl
@[simp] theorem State.writeLine_r6 (s : State) (addr v : Byte) : (s.writeLine addr v).r6 = s.r6 := rfl
@[simp] theorem State.writeLine_r7 (s : State) (addr v : Byte) : (s.writeLine addr v).r7 = s.r7 := rfl
@[simp] theorem State.writeLine_flags (s : State) (addr v : Byte) : (s.writeLine addr v).flags = s.flags := rfl
@[simp] theorem State.writeLine_cmod (s : State) (addr v : Byte) : (s.writeLine addr v).cmod = s.cmod := rfl
@[simp] theorem State.writeLine_ptr (s : State) (addr v : Byte) : (s.writeLine addr v).ptr = s.ptr := rfl
@[simp] theorem State.writeLine_fwdb (s : State) (addr v : Byte) : (s.writeLine addr v).fwdb = s.fwdb := rfl
@[simp] theorem State.writeLine_pstack (s : State) (addr v : Byte) : (s.writeLine addr v).pstack = s.pstack := rfl
@[simp] theorem State.writeLine_cstack (s : State) (addr v : Byte) : (s.writeLine addr v).cstack = s.cstack := rfl
@[simp] theorem State.writeLine_line (s : State) (addr v : Byte) : (s.writeLine addr v).line = s.line := rfl
@[simp] theorem State.writeLine_islot (s : State) (addr v : Byte) : (s.writeLine addr v).islot = s.islot := rfl
@[simp] theorem State.writeLine_dslot (s : State) (addr v : Byte) : (s.writeLine addr v).dslot = { s.dslot with lines := s.dslot.lines.set (lineOf addr) v, dirty := true } := rfl
@[simp] theorem State.writeLine_store (s : State) (addr v : Byte) : (s.writeLine addr v).store = s.store := rfl
@[simp] theorem State.writeLine_iseg (s : State) (addr v : Byte) : (s.writeLine addr v).iseg = s.iseg := rfl
@[simp] theorem State.writeLine_ds (s : State) (addr v : Byte) : (s.writeLine addr v).ds = s.ds := rfl
@[simp] theorem State.writeLine_kds (s : State) (addr v : Byte) : (s.writeLine addr v).kds = s.kds := rfl
@[simp] theorem State.writeLine_pid (s : State) (addr v : Byte) : (s.writeLine addr v).pid = s.pid := rfl
@[simp] theorem State.writeLine_mode (s : State) (addr v : Byte) : (s.writeLine addr v).mode = s.mode := rfl
@[simp] theorem State.writeLine_eu (s : State) (addr v : Byte) : (s.writeLine addr v).eu = s.eu := rfl
@[simp] theorem State.writeLine_halted (s : State) (addr v : Byte) : (s.writeLine addr v).halted = s.halted := rfl
@[simp] theorem State.writeLine_fault (s : State) (addr v : Byte) : (s.writeLine addr v).fault = s.fault := rfl
@[simp] theorem State.writeLine_events (s : State) (addr v : Byte) : (s.writeLine addr v).events = s.events := rfl
@[simp] theorem State.writeLine_cfg (s : State) (addr v : Byte) : (s.writeLine addr v).cfg = s.cfg := rfl
@[simp] theorem State.writeLine_portAnswers (s : State) (addr v : Byte) : (s.writeLine addr v).portAnswers = s.portAnswers := rfl
@[simp] theorem State.writeLine_portLoads (s : State) (addr v : Byte) : (s.writeLine addr v).portLoads = s.portLoads := rfl

/-! ### `setIseg` -/

@[simp] theorem State.setIseg_a (s : State) (seg : Segment) : (s.setIseg seg).a = s.a := rfl
@[simp] theorem State.setIseg_r1 (s : State) (seg : Segment) : (s.setIseg seg).r1 = s.r1 := rfl
@[simp] theorem State.setIseg_r2 (s : State) (seg : Segment) : (s.setIseg seg).r2 = s.r2 := rfl
@[simp] theorem State.setIseg_r3 (s : State) (seg : Segment) : (s.setIseg seg).r3 = s.r3 := rfl
@[simp] theorem State.setIseg_r4 (s : State) (seg : Segment) : (s.setIseg seg).r4 = s.r4 := rfl
@[simp] theorem State.setIseg_r5 (s : State) (seg : Segment) : (s.setIseg seg).r5 = s.r5 := rfl
@[simp] theorem State.setIseg_r6 (s : State) (seg : Segment) : (s.setIseg seg).r6 = s.r6 := rfl
@[simp] theorem State.setIseg_r7 (s : State) (seg : Segment) : (s.setIseg seg).r7 = s.r7 := rfl
@[simp] theorem State.setIseg_flags (s : State) (seg : Segment) : (s.setIseg seg).flags = s.flags := rfl
@[simp] theorem State.setIseg_cmod (s : State) (seg : Segment) : (s.setIseg seg).cmod = s.cmod := rfl
@[simp] theorem State.setIseg_ptr (s : State) (seg : Segment) : (s.setIseg seg).ptr = s.ptr := rfl
@[simp] theorem State.setIseg_fwdb (s : State) (seg : Segment) : (s.setIseg seg).fwdb = s.fwdb := rfl
@[simp] theorem State.setIseg_pstack (s : State) (seg : Segment) : (s.setIseg seg).pstack = s.pstack := rfl
@[simp] theorem State.setIseg_cstack (s : State) (seg : Segment) : (s.setIseg seg).cstack = s.cstack := rfl
@[simp] theorem State.setIseg_line (s : State) (seg : Segment) : (s.setIseg seg).line = s.line := rfl
@[simp] theorem State.setIseg_islot (s : State) (seg : Segment) : (s.setIseg seg).islot = { s.islot with valid := false } := rfl
@[simp] theorem State.setIseg_dslot (s : State) (seg : Segment) : (s.setIseg seg).dslot = s.dslot := rfl
@[simp] theorem State.setIseg_store (s : State) (seg : Segment) : (s.setIseg seg).store = s.store := rfl
@[simp] theorem State.setIseg_iseg (s : State) (seg : Segment) : (s.setIseg seg).iseg = seg := rfl
@[simp] theorem State.setIseg_ds (s : State) (seg : Segment) : (s.setIseg seg).ds = s.ds := rfl
@[simp] theorem State.setIseg_kds (s : State) (seg : Segment) : (s.setIseg seg).kds = s.kds := rfl
@[simp] theorem State.setIseg_pid (s : State) (seg : Segment) : (s.setIseg seg).pid = s.pid := rfl
@[simp] theorem State.setIseg_mode (s : State) (seg : Segment) : (s.setIseg seg).mode = s.mode := rfl
@[simp] theorem State.setIseg_eu (s : State) (seg : Segment) : (s.setIseg seg).eu = s.eu := rfl
@[simp] theorem State.setIseg_halted (s : State) (seg : Segment) : (s.setIseg seg).halted = s.halted := rfl
@[simp] theorem State.setIseg_fault (s : State) (seg : Segment) : (s.setIseg seg).fault = s.fault := rfl
@[simp] theorem State.setIseg_events (s : State) (seg : Segment) : (s.setIseg seg).events = s.events := rfl
@[simp] theorem State.setIseg_cfg (s : State) (seg : Segment) : (s.setIseg seg).cfg = s.cfg := rfl
@[simp] theorem State.setIseg_portAnswers (s : State) (seg : Segment) : (s.setIseg seg).portAnswers = s.portAnswers := rfl
@[simp] theorem State.setIseg_portLoads (s : State) (seg : Segment) : (s.setIseg seg).portLoads = s.portLoads := rfl

/-! ### `setDs` -/

@[simp] theorem State.setDs_a (s : State) (seg : Segment) : (s.setDs seg).a = s.a := rfl
@[simp] theorem State.setDs_r1 (s : State) (seg : Segment) : (s.setDs seg).r1 = s.r1 := rfl
@[simp] theorem State.setDs_r2 (s : State) (seg : Segment) : (s.setDs seg).r2 = s.r2 := rfl
@[simp] theorem State.setDs_r3 (s : State) (seg : Segment) : (s.setDs seg).r3 = s.r3 := rfl
@[simp] theorem State.setDs_r4 (s : State) (seg : Segment) : (s.setDs seg).r4 = s.r4 := rfl
@[simp] theorem State.setDs_r5 (s : State) (seg : Segment) : (s.setDs seg).r5 = s.r5 := rfl
@[simp] theorem State.setDs_r6 (s : State) (seg : Segment) : (s.setDs seg).r6 = s.r6 := rfl
@[simp] theorem State.setDs_r7 (s : State) (seg : Segment) : (s.setDs seg).r7 = s.r7 := rfl
@[simp] theorem State.setDs_flags (s : State) (seg : Segment) : (s.setDs seg).flags = s.flags := rfl
@[simp] theorem State.setDs_cmod (s : State) (seg : Segment) : (s.setDs seg).cmod = s.cmod := rfl
@[simp] theorem State.setDs_ptr (s : State) (seg : Segment) : (s.setDs seg).ptr = s.ptr := rfl
@[simp] theorem State.setDs_fwdb (s : State) (seg : Segment) : (s.setDs seg).fwdb = s.fwdb := rfl
@[simp] theorem State.setDs_pstack (s : State) (seg : Segment) : (s.setDs seg).pstack = s.pstack := rfl
@[simp] theorem State.setDs_cstack (s : State) (seg : Segment) : (s.setDs seg).cstack = s.cstack := rfl
@[simp] theorem State.setDs_line (s : State) (seg : Segment) : (s.setDs seg).line = s.line := rfl
@[simp] theorem State.setDs_islot (s : State) (seg : Segment) : (s.setDs seg).islot = s.islot := rfl
@[simp] theorem State.setDs_dslot (s : State) (seg : Segment) : (s.setDs seg).dslot = { s.dslot with valid := false } := rfl
@[simp] theorem State.setDs_store (s : State) (seg : Segment) : (s.setDs seg).store = s.store := rfl
@[simp] theorem State.setDs_iseg (s : State) (seg : Segment) : (s.setDs seg).iseg = s.iseg := rfl
@[simp] theorem State.setDs_ds (s : State) (seg : Segment) : (s.setDs seg).ds = some seg := rfl
@[simp] theorem State.setDs_kds (s : State) (seg : Segment) : (s.setDs seg).kds = s.kds := rfl
@[simp] theorem State.setDs_pid (s : State) (seg : Segment) : (s.setDs seg).pid = s.pid := rfl
@[simp] theorem State.setDs_mode (s : State) (seg : Segment) : (s.setDs seg).mode = s.mode := rfl
@[simp] theorem State.setDs_eu (s : State) (seg : Segment) : (s.setDs seg).eu = s.eu := rfl
@[simp] theorem State.setDs_halted (s : State) (seg : Segment) : (s.setDs seg).halted = s.halted := rfl
@[simp] theorem State.setDs_fault (s : State) (seg : Segment) : (s.setDs seg).fault = s.fault := rfl
@[simp] theorem State.setDs_events (s : State) (seg : Segment) : (s.setDs seg).events = s.events := rfl
@[simp] theorem State.setDs_cfg (s : State) (seg : Segment) : (s.setDs seg).cfg = s.cfg := rfl
@[simp] theorem State.setDs_portAnswers (s : State) (seg : Segment) : (s.setDs seg).portAnswers = s.portAnswers := rfl
@[simp] theorem State.setDs_portLoads (s : State) (seg : Segment) : (s.setDs seg).portLoads = s.portLoads := rfl

/-! ### `setKds` -/

@[simp] theorem State.setKds_a (s : State) (seg : Option Segment) : (s.setKds seg).a = s.a := rfl
@[simp] theorem State.setKds_r1 (s : State) (seg : Option Segment) : (s.setKds seg).r1 = s.r1 := rfl
@[simp] theorem State.setKds_r2 (s : State) (seg : Option Segment) : (s.setKds seg).r2 = s.r2 := rfl
@[simp] theorem State.setKds_r3 (s : State) (seg : Option Segment) : (s.setKds seg).r3 = s.r3 := rfl
@[simp] theorem State.setKds_r4 (s : State) (seg : Option Segment) : (s.setKds seg).r4 = s.r4 := rfl
@[simp] theorem State.setKds_r5 (s : State) (seg : Option Segment) : (s.setKds seg).r5 = s.r5 := rfl
@[simp] theorem State.setKds_r6 (s : State) (seg : Option Segment) : (s.setKds seg).r6 = s.r6 := rfl
@[simp] theorem State.setKds_r7 (s : State) (seg : Option Segment) : (s.setKds seg).r7 = s.r7 := rfl
@[simp] theorem State.setKds_flags (s : State) (seg : Option Segment) : (s.setKds seg).flags = s.flags := rfl
@[simp] theorem State.setKds_cmod (s : State) (seg : Option Segment) : (s.setKds seg).cmod = s.cmod := rfl
@[simp] theorem State.setKds_ptr (s : State) (seg : Option Segment) : (s.setKds seg).ptr = s.ptr := rfl
@[simp] theorem State.setKds_fwdb (s : State) (seg : Option Segment) : (s.setKds seg).fwdb = s.fwdb := rfl
@[simp] theorem State.setKds_pstack (s : State) (seg : Option Segment) : (s.setKds seg).pstack = s.pstack := rfl
@[simp] theorem State.setKds_cstack (s : State) (seg : Option Segment) : (s.setKds seg).cstack = s.cstack := rfl
@[simp] theorem State.setKds_line (s : State) (seg : Option Segment) : (s.setKds seg).line = s.line := rfl
@[simp] theorem State.setKds_islot (s : State) (seg : Option Segment) : (s.setKds seg).islot = s.islot := rfl
@[simp] theorem State.setKds_dslot (s : State) (seg : Option Segment) : (s.setKds seg).dslot = { s.dslot with valid := false } := rfl
@[simp] theorem State.setKds_store (s : State) (seg : Option Segment) : (s.setKds seg).store = s.store := rfl
@[simp] theorem State.setKds_iseg (s : State) (seg : Option Segment) : (s.setKds seg).iseg = s.iseg := rfl
@[simp] theorem State.setKds_ds (s : State) (seg : Option Segment) : (s.setKds seg).ds = s.ds := rfl
@[simp] theorem State.setKds_kds (s : State) (seg : Option Segment) : (s.setKds seg).kds = seg := rfl
@[simp] theorem State.setKds_pid (s : State) (seg : Option Segment) : (s.setKds seg).pid = s.pid := rfl
@[simp] theorem State.setKds_mode (s : State) (seg : Option Segment) : (s.setKds seg).mode = s.mode := rfl
@[simp] theorem State.setKds_eu (s : State) (seg : Option Segment) : (s.setKds seg).eu = s.eu := rfl
@[simp] theorem State.setKds_halted (s : State) (seg : Option Segment) : (s.setKds seg).halted = s.halted := rfl
@[simp] theorem State.setKds_fault (s : State) (seg : Option Segment) : (s.setKds seg).fault = s.fault := rfl
@[simp] theorem State.setKds_events (s : State) (seg : Option Segment) : (s.setKds seg).events = s.events := rfl
@[simp] theorem State.setKds_cfg (s : State) (seg : Option Segment) : (s.setKds seg).cfg = s.cfg := rfl
@[simp] theorem State.setKds_portAnswers (s : State) (seg : Option Segment) : (s.setKds seg).portAnswers = s.portAnswers := rfl
@[simp] theorem State.setKds_portLoads (s : State) (seg : Option Segment) : (s.setKds seg).portLoads = s.portLoads := rfl

/-! ### `setMode` -/

@[simp] theorem State.setMode_a (s : State) (m : Mode) : (s.setMode m).a = s.a := rfl
@[simp] theorem State.setMode_r1 (s : State) (m : Mode) : (s.setMode m).r1 = s.r1 := rfl
@[simp] theorem State.setMode_r2 (s : State) (m : Mode) : (s.setMode m).r2 = s.r2 := rfl
@[simp] theorem State.setMode_r3 (s : State) (m : Mode) : (s.setMode m).r3 = s.r3 := rfl
@[simp] theorem State.setMode_r4 (s : State) (m : Mode) : (s.setMode m).r4 = s.r4 := rfl
@[simp] theorem State.setMode_r5 (s : State) (m : Mode) : (s.setMode m).r5 = s.r5 := rfl
@[simp] theorem State.setMode_r6 (s : State) (m : Mode) : (s.setMode m).r6 = s.r6 := rfl
@[simp] theorem State.setMode_r7 (s : State) (m : Mode) : (s.setMode m).r7 = s.r7 := rfl
@[simp] theorem State.setMode_flags (s : State) (m : Mode) : (s.setMode m).flags = s.flags := rfl
@[simp] theorem State.setMode_cmod (s : State) (m : Mode) : (s.setMode m).cmod = s.cmod := rfl
@[simp] theorem State.setMode_ptr (s : State) (m : Mode) : (s.setMode m).ptr = s.ptr := rfl
@[simp] theorem State.setMode_fwdb (s : State) (m : Mode) : (s.setMode m).fwdb = s.fwdb := rfl
@[simp] theorem State.setMode_pstack (s : State) (m : Mode) : (s.setMode m).pstack = s.pstack := rfl
@[simp] theorem State.setMode_cstack (s : State) (m : Mode) : (s.setMode m).cstack = s.cstack := rfl
@[simp] theorem State.setMode_line (s : State) (m : Mode) : (s.setMode m).line = s.line := rfl
@[simp] theorem State.setMode_islot (s : State) (m : Mode) : (s.setMode m).islot = s.islot := rfl
@[simp] theorem State.setMode_dslot (s : State) (m : Mode) : (s.setMode m).dslot = s.dslot := rfl
@[simp] theorem State.setMode_store (s : State) (m : Mode) : (s.setMode m).store = s.store := rfl
@[simp] theorem State.setMode_iseg (s : State) (m : Mode) : (s.setMode m).iseg = s.iseg := rfl
@[simp] theorem State.setMode_ds (s : State) (m : Mode) : (s.setMode m).ds = s.ds := rfl
@[simp] theorem State.setMode_kds (s : State) (m : Mode) : (s.setMode m).kds = s.kds := rfl
@[simp] theorem State.setMode_pid (s : State) (m : Mode) : (s.setMode m).pid = s.pid := rfl
@[simp] theorem State.setMode_mode (s : State) (m : Mode) : (s.setMode m).mode = m := rfl
@[simp] theorem State.setMode_eu (s : State) (m : Mode) : (s.setMode m).eu = s.eu := rfl
@[simp] theorem State.setMode_halted (s : State) (m : Mode) : (s.setMode m).halted = s.halted := rfl
@[simp] theorem State.setMode_fault (s : State) (m : Mode) : (s.setMode m).fault = s.fault := rfl
@[simp] theorem State.setMode_events (s : State) (m : Mode) : (s.setMode m).events = s.events := rfl
@[simp] theorem State.setMode_cfg (s : State) (m : Mode) : (s.setMode m).cfg = s.cfg := rfl
@[simp] theorem State.setMode_portAnswers (s : State) (m : Mode) : (s.setMode m).portAnswers = s.portAnswers := rfl
@[simp] theorem State.setMode_portLoads (s : State) (m : Mode) : (s.setMode m).portLoads = s.portLoads := rfl

/-! ### `setPid` -/

@[simp] theorem State.setPid_a (s : State) (v : Byte) : (s.setPid v).a = s.a := rfl
@[simp] theorem State.setPid_r1 (s : State) (v : Byte) : (s.setPid v).r1 = s.r1 := rfl
@[simp] theorem State.setPid_r2 (s : State) (v : Byte) : (s.setPid v).r2 = s.r2 := rfl
@[simp] theorem State.setPid_r3 (s : State) (v : Byte) : (s.setPid v).r3 = s.r3 := rfl
@[simp] theorem State.setPid_r4 (s : State) (v : Byte) : (s.setPid v).r4 = s.r4 := rfl
@[simp] theorem State.setPid_r5 (s : State) (v : Byte) : (s.setPid v).r5 = s.r5 := rfl
@[simp] theorem State.setPid_r6 (s : State) (v : Byte) : (s.setPid v).r6 = s.r6 := rfl
@[simp] theorem State.setPid_r7 (s : State) (v : Byte) : (s.setPid v).r7 = s.r7 := rfl
@[simp] theorem State.setPid_flags (s : State) (v : Byte) : (s.setPid v).flags = s.flags := rfl
@[simp] theorem State.setPid_cmod (s : State) (v : Byte) : (s.setPid v).cmod = s.cmod := rfl
@[simp] theorem State.setPid_ptr (s : State) (v : Byte) : (s.setPid v).ptr = s.ptr := rfl
@[simp] theorem State.setPid_fwdb (s : State) (v : Byte) : (s.setPid v).fwdb = s.fwdb := rfl
@[simp] theorem State.setPid_pstack (s : State) (v : Byte) : (s.setPid v).pstack = s.pstack := rfl
@[simp] theorem State.setPid_cstack (s : State) (v : Byte) : (s.setPid v).cstack = s.cstack := rfl
@[simp] theorem State.setPid_line (s : State) (v : Byte) : (s.setPid v).line = s.line := rfl
@[simp] theorem State.setPid_islot (s : State) (v : Byte) : (s.setPid v).islot = s.islot := rfl
@[simp] theorem State.setPid_dslot (s : State) (v : Byte) : (s.setPid v).dslot = s.dslot := rfl
@[simp] theorem State.setPid_store (s : State) (v : Byte) : (s.setPid v).store = s.store := rfl
@[simp] theorem State.setPid_iseg (s : State) (v : Byte) : (s.setPid v).iseg = s.iseg := rfl
@[simp] theorem State.setPid_ds (s : State) (v : Byte) : (s.setPid v).ds = s.ds := rfl
@[simp] theorem State.setPid_kds (s : State) (v : Byte) : (s.setPid v).kds = s.kds := rfl
@[simp] theorem State.setPid_pid (s : State) (v : Byte) : (s.setPid v).pid = v := rfl
@[simp] theorem State.setPid_mode (s : State) (v : Byte) : (s.setPid v).mode = s.mode := rfl
@[simp] theorem State.setPid_eu (s : State) (v : Byte) : (s.setPid v).eu = s.eu := rfl
@[simp] theorem State.setPid_halted (s : State) (v : Byte) : (s.setPid v).halted = s.halted := rfl
@[simp] theorem State.setPid_fault (s : State) (v : Byte) : (s.setPid v).fault = s.fault := rfl
@[simp] theorem State.setPid_events (s : State) (v : Byte) : (s.setPid v).events = s.events := rfl
@[simp] theorem State.setPid_cfg (s : State) (v : Byte) : (s.setPid v).cfg = s.cfg := rfl
@[simp] theorem State.setPid_portAnswers (s : State) (v : Byte) : (s.setPid v).portAnswers = s.portAnswers := rfl
@[simp] theorem State.setPid_portLoads (s : State) (v : Byte) : (s.setPid v).portLoads = s.portLoads := rfl

/-! ### `portLoaded` -/

@[simp] theorem State.portLoaded_a (s : State) (p : PortAddr) : (s.portLoaded p).a = s.a := rfl
@[simp] theorem State.portLoaded_r1 (s : State) (p : PortAddr) : (s.portLoaded p).r1 = s.r1 := rfl
@[simp] theorem State.portLoaded_r2 (s : State) (p : PortAddr) : (s.portLoaded p).r2 = s.r2 := rfl
@[simp] theorem State.portLoaded_r3 (s : State) (p : PortAddr) : (s.portLoaded p).r3 = s.r3 := rfl
@[simp] theorem State.portLoaded_r4 (s : State) (p : PortAddr) : (s.portLoaded p).r4 = s.r4 := rfl
@[simp] theorem State.portLoaded_r5 (s : State) (p : PortAddr) : (s.portLoaded p).r5 = s.r5 := rfl
@[simp] theorem State.portLoaded_r6 (s : State) (p : PortAddr) : (s.portLoaded p).r6 = s.r6 := rfl
@[simp] theorem State.portLoaded_r7 (s : State) (p : PortAddr) : (s.portLoaded p).r7 = s.r7 := rfl
@[simp] theorem State.portLoaded_flags (s : State) (p : PortAddr) : (s.portLoaded p).flags = s.flags := rfl
@[simp] theorem State.portLoaded_cmod (s : State) (p : PortAddr) : (s.portLoaded p).cmod = s.cmod := rfl
@[simp] theorem State.portLoaded_ptr (s : State) (p : PortAddr) : (s.portLoaded p).ptr = s.ptr := rfl
@[simp] theorem State.portLoaded_fwdb (s : State) (p : PortAddr) : (s.portLoaded p).fwdb = s.fwdb := rfl
@[simp] theorem State.portLoaded_pstack (s : State) (p : PortAddr) : (s.portLoaded p).pstack = s.pstack := rfl
@[simp] theorem State.portLoaded_cstack (s : State) (p : PortAddr) : (s.portLoaded p).cstack = s.cstack := rfl
@[simp] theorem State.portLoaded_line (s : State) (p : PortAddr) : (s.portLoaded p).line = s.line := rfl
@[simp] theorem State.portLoaded_islot (s : State) (p : PortAddr) : (s.portLoaded p).islot = s.islot := rfl
@[simp] theorem State.portLoaded_dslot (s : State) (p : PortAddr) : (s.portLoaded p).dslot = s.dslot := rfl
@[simp] theorem State.portLoaded_store (s : State) (p : PortAddr) : (s.portLoaded p).store = s.store := rfl
@[simp] theorem State.portLoaded_iseg (s : State) (p : PortAddr) : (s.portLoaded p).iseg = s.iseg := rfl
@[simp] theorem State.portLoaded_ds (s : State) (p : PortAddr) : (s.portLoaded p).ds = s.ds := rfl
@[simp] theorem State.portLoaded_kds (s : State) (p : PortAddr) : (s.portLoaded p).kds = s.kds := rfl
@[simp] theorem State.portLoaded_pid (s : State) (p : PortAddr) : (s.portLoaded p).pid = s.pid := rfl
@[simp] theorem State.portLoaded_mode (s : State) (p : PortAddr) : (s.portLoaded p).mode = s.mode := rfl
@[simp] theorem State.portLoaded_eu (s : State) (p : PortAddr) : (s.portLoaded p).eu = s.eu := rfl
@[simp] theorem State.portLoaded_halted (s : State) (p : PortAddr) : (s.portLoaded p).halted = s.halted := rfl
@[simp] theorem State.portLoaded_fault (s : State) (p : PortAddr) : (s.portLoaded p).fault = s.fault := rfl
@[simp] theorem State.portLoaded_events (s : State) (p : PortAddr) : (s.portLoaded p).events = s.events ++ [.portLoad p s.portAnswer] := rfl
@[simp] theorem State.portLoaded_cfg (s : State) (p : PortAddr) : (s.portLoaded p).cfg = s.cfg := rfl
@[simp] theorem State.portLoaded_portAnswers (s : State) (p : PortAddr) : (s.portLoaded p).portAnswers = s.portAnswers.tail := rfl
@[simp] theorem State.portLoaded_portLoads (s : State) (p : PortAddr) : (s.portLoaded p).portLoads = s.portLoads + 1 := rfl

/-! ### `holdFirst` -/

@[simp] theorem State.holdFirst_a (s : State) (op : Opcode) (k : Operand) : (s.holdFirst op k).a = s.a := rfl
@[simp] theorem State.holdFirst_r1 (s : State) (op : Opcode) (k : Operand) : (s.holdFirst op k).r1 = s.r1 := rfl
@[simp] theorem State.holdFirst_r2 (s : State) (op : Opcode) (k : Operand) : (s.holdFirst op k).r2 = s.r2 := rfl
@[simp] theorem State.holdFirst_r3 (s : State) (op : Opcode) (k : Operand) : (s.holdFirst op k).r3 = s.r3 := rfl
@[simp] theorem State.holdFirst_r4 (s : State) (op : Opcode) (k : Operand) : (s.holdFirst op k).r4 = s.r4 := rfl
@[simp] theorem State.holdFirst_r5 (s : State) (op : Opcode) (k : Operand) : (s.holdFirst op k).r5 = s.r5 := rfl
@[simp] theorem State.holdFirst_r6 (s : State) (op : Opcode) (k : Operand) : (s.holdFirst op k).r6 = s.r6 := rfl
@[simp] theorem State.holdFirst_r7 (s : State) (op : Opcode) (k : Operand) : (s.holdFirst op k).r7 = s.r7 := rfl
@[simp] theorem State.holdFirst_flags (s : State) (op : Opcode) (k : Operand) : (s.holdFirst op k).flags = s.flags := rfl
@[simp] theorem State.holdFirst_cmod (s : State) (op : Opcode) (k : Operand) : (s.holdFirst op k).cmod = s.cmod := rfl
@[simp] theorem State.holdFirst_ptr (s : State) (op : Opcode) (k : Operand) : (s.holdFirst op k).ptr = s.ptr := rfl
@[simp] theorem State.holdFirst_fwdb (s : State) (op : Opcode) (k : Operand) : (s.holdFirst op k).fwdb = s.fwdb := rfl
@[simp] theorem State.holdFirst_pstack (s : State) (op : Opcode) (k : Operand) : (s.holdFirst op k).pstack = s.pstack := rfl
@[simp] theorem State.holdFirst_cstack (s : State) (op : Opcode) (k : Operand) : (s.holdFirst op k).cstack = s.cstack := rfl
@[simp] theorem State.holdFirst_line (s : State) (op : Opcode) (k : Operand) : (s.holdFirst op k).line = s.line + 1 := rfl
@[simp] theorem State.holdFirst_islot (s : State) (op : Opcode) (k : Operand) : (s.holdFirst op k).islot = s.islot := rfl
@[simp] theorem State.holdFirst_dslot (s : State) (op : Opcode) (k : Operand) : (s.holdFirst op k).dslot = s.dslot := rfl
@[simp] theorem State.holdFirst_store (s : State) (op : Opcode) (k : Operand) : (s.holdFirst op k).store = s.store := rfl
@[simp] theorem State.holdFirst_iseg (s : State) (op : Opcode) (k : Operand) : (s.holdFirst op k).iseg = s.iseg := rfl
@[simp] theorem State.holdFirst_ds (s : State) (op : Opcode) (k : Operand) : (s.holdFirst op k).ds = s.ds := rfl
@[simp] theorem State.holdFirst_kds (s : State) (op : Opcode) (k : Operand) : (s.holdFirst op k).kds = s.kds := rfl
@[simp] theorem State.holdFirst_pid (s : State) (op : Opcode) (k : Operand) : (s.holdFirst op k).pid = s.pid := rfl
@[simp] theorem State.holdFirst_mode (s : State) (op : Opcode) (k : Operand) : (s.holdFirst op k).mode = s.mode := rfl
@[simp] theorem State.holdFirst_eu (s : State) (op : Opcode) (k : Operand) : (s.holdFirst op k).eu = .await op k := rfl
@[simp] theorem State.holdFirst_halted (s : State) (op : Opcode) (k : Operand) : (s.holdFirst op k).halted = s.halted := rfl
@[simp] theorem State.holdFirst_fault (s : State) (op : Opcode) (k : Operand) : (s.holdFirst op k).fault = s.fault := rfl
@[simp] theorem State.holdFirst_events (s : State) (op : Opcode) (k : Operand) : (s.holdFirst op k).events = s.events := rfl
@[simp] theorem State.holdFirst_cfg (s : State) (op : Opcode) (k : Operand) : (s.holdFirst op k).cfg = s.cfg := rfl
@[simp] theorem State.holdFirst_portAnswers (s : State) (op : Opcode) (k : Operand) : (s.holdFirst op k).portAnswers = s.portAnswers := rfl
@[simp] theorem State.holdFirst_portLoads (s : State) (op : Opcode) (k : Operand) : (s.holdFirst op k).portLoads = s.portLoads := rfl

end Sys2Proof.Machine
end

