-- ==== Sys2Proof/Laws/Ops.lean ====
section
/-!
SUPPORT. One lemma per shared operation that says what it can do, and one for each field a conditional operation leaves alone.
-/
namespace Sys2Proof.Machine

/-! ### Bytes as integers, and the packed address -/

@[simp] theorem ofInt_toNat (v : Byte) : BitVec.ofInt 8 (v.toNat : Int) = v := by
  rw [BitVec.ofInt_natCast, BitVec.ofNat_toNat, BitVec.setWidth_eq]

theorem lineOf_lt (addr : Byte) : lineOf addr < 32 := by
  unfold lineOf
  rw [BitVec.toNat_and]
  exact Nat.lt_of_le_of_lt Nat.and_le_right (by decide)

theorem lineOf_eq_mod (addr : Byte) : lineOf addr = addr.toNat % 32 := by
  unfold lineOf
  rw [BitVec.toNat_and]
  exact Nat.and_two_pow_sub_one_eq_mod addr.toNat 5

/-! ### The codes of the fatal conditions -/

/-- No two fatal conditions have one code (R211). -/
theorem Fatal.code_inj {f g : Fatal} : f.code = g.code ↔ f = g := by cases f <;> cases g <;> decide

theorem State.faultCode_eq_some_iff (s : State) (f : Fatal) : s.faultCode = some f.code ↔ s.fault = some f := by
  simp [State.faultCode, Fatal.code_inj]

@[simp] theorem State.raise_faultCode (s : State) (f : Fatal) : (s.raise f).faultCode = some f.code := rfl

/-! ### Registers -/

theorem State.x_writeReg (s : State) (r q : Reg) (V : Int) :
    (s.writeReg r V).x q = if q = r then BitVec.ofInt 8 V else s.x q := by
  cases r <;> cases q <;> rfl

theorem State.writeReg_flags_of_ne (s : State) {r : Reg} (V : Int) (h : r ≠ .acc) : (s.writeReg r V).flags = s.flags := by
  cases r <;> first | exact absurd rfl h | rfl

@[simp] theorem State.writeReg_acc (s : State) (V : Int) : s.writeReg .acc V = s.writeAcc V := rfl

theorem State.x_setReg (s : State) (r q : Reg) (v : Byte) : (s.setReg r v).x q = if q = r then v else s.x q := by
  unfold State.setReg
  rw [State.x_writeReg, ofInt_toNat]

/-! ### What `writeReg` leaves alone -/

@[simp] theorem State.writeReg_cmod (s : State) (r : Reg) (V : Int) : (s.writeReg r V).cmod = s.cmod := by
  cases r <;> rfl
@[simp] theorem State.writeReg_ptr (s : State) (r : Reg) (V : Int) : (s.writeReg r V).ptr = s.ptr := by
  cases r <;> rfl
@[simp] theorem State.writeReg_fwdb (s : State) (r : Reg) (V : Int) : (s.writeReg r V).fwdb = s.fwdb := by
  cases r <;> rfl
@[simp] theorem State.writeReg_pstack (s : State) (r : Reg) (V : Int) : (s.writeReg r V).pstack = s.pstack := by
  cases r <;> rfl
@[simp] theorem State.writeReg_cstack (s : State) (r : Reg) (V : Int) : (s.writeReg r V).cstack = s.cstack := by
  cases r <;> rfl
@[simp] theorem State.writeReg_line (s : State) (r : Reg) (V : Int) : (s.writeReg r V).line = s.line := by
  cases r <;> rfl
@[simp] theorem State.writeReg_islot (s : State) (r : Reg) (V : Int) : (s.writeReg r V).islot = s.islot := by
  cases r <;> rfl
@[simp] theorem State.writeReg_dslot (s : State) (r : Reg) (V : Int) : (s.writeReg r V).dslot = s.dslot := by
  cases r <;> rfl
@[simp] theorem State.writeReg_store (s : State) (r : Reg) (V : Int) : (s.writeReg r V).store = s.store := by
  cases r <;> rfl
@[simp] theorem State.writeReg_iseg (s : State) (r : Reg) (V : Int) : (s.writeReg r V).iseg = s.iseg := by
  cases r <;> rfl
@[simp] theorem State.writeReg_ds (s : State) (r : Reg) (V : Int) : (s.writeReg r V).ds = s.ds := by
  cases r <;> rfl
@[simp] theorem State.writeReg_kds (s : State) (r : Reg) (V : Int) : (s.writeReg r V).kds = s.kds := by
  cases r <;> rfl
@[simp] theorem State.writeReg_pid (s : State) (r : Reg) (V : Int) : (s.writeReg r V).pid = s.pid := by
  cases r <;> rfl
@[simp] theorem State.writeReg_mode (s : State) (r : Reg) (V : Int) : (s.writeReg r V).mode = s.mode := by
  cases r <;> rfl
@[simp] theorem State.writeReg_eu (s : State) (r : Reg) (V : Int) : (s.writeReg r V).eu = s.eu := by
  cases r <;> rfl
@[simp] theorem State.writeReg_halted (s : State) (r : Reg) (V : Int) : (s.writeReg r V).halted = s.halted := by
  cases r <;> rfl
@[simp] theorem State.writeReg_fault (s : State) (r : Reg) (V : Int) : (s.writeReg r V).fault = s.fault := by
  cases r <;> rfl
@[simp] theorem State.writeReg_events (s : State) (r : Reg) (V : Int) : (s.writeReg r V).events = s.events := by
  cases r <;> rfl
@[simp] theorem State.writeReg_cfg (s : State) (r : Reg) (V : Int) : (s.writeReg r V).cfg = s.cfg := by
  cases r <;> rfl
@[simp] theorem State.writeReg_portAnswers (s : State) (r : Reg) (V : Int) : (s.writeReg r V).portAnswers = s.portAnswers := by
  cases r <;> rfl
@[simp] theorem State.writeReg_portLoads (s : State) (r : Reg) (V : Int) : (s.writeReg r V).portLoads = s.portLoads := by
  cases r <;> rfl

/-! ### What `setReg` leaves alone -/

@[simp] theorem State.setReg_cmod (s : State) (r : Reg) (v : Byte) : (s.setReg r v).cmod = s.cmod := by
  cases r <;> rfl
@[simp] theorem State.setReg_ptr (s : State) (r : Reg) (v : Byte) : (s.setReg r v).ptr = s.ptr := by
  cases r <;> rfl
@[simp] theorem State.setReg_fwdb (s : State) (r : Reg) (v : Byte) : (s.setReg r v).fwdb = s.fwdb := by
  cases r <;> rfl
@[simp] theorem State.setReg_pstack (s : State) (r : Reg) (v : Byte) : (s.setReg r v).pstack = s.pstack := by
  cases r <;> rfl
@[simp] theorem State.setReg_cstack (s : State) (r : Reg) (v : Byte) : (s.setReg r v).cstack = s.cstack := by
  cases r <;> rfl
@[simp] theorem State.setReg_line (s : State) (r : Reg) (v : Byte) : (s.setReg r v).line = s.line := by
  cases r <;> rfl
@[simp] theorem State.setReg_islot (s : State) (r : Reg) (v : Byte) : (s.setReg r v).islot = s.islot := by
  cases r <;> rfl
@[simp] theorem State.setReg_dslot (s : State) (r : Reg) (v : Byte) : (s.setReg r v).dslot = s.dslot := by
  cases r <;> rfl
@[simp] theorem State.setReg_store (s : State) (r : Reg) (v : Byte) : (s.setReg r v).store = s.store := by
  cases r <;> rfl
@[simp] theorem State.setReg_iseg (s : State) (r : Reg) (v : Byte) : (s.setReg r v).iseg = s.iseg := by
  cases r <;> rfl
@[simp] theorem State.setReg_ds (s : State) (r : Reg) (v : Byte) : (s.setReg r v).ds = s.ds := by
  cases r <;> rfl
@[simp] theorem State.setReg_kds (s : State) (r : Reg) (v : Byte) : (s.setReg r v).kds = s.kds := by
  cases r <;> rfl
@[simp] theorem State.setReg_pid (s : State) (r : Reg) (v : Byte) : (s.setReg r v).pid = s.pid := by
  cases r <;> rfl
@[simp] theorem State.setReg_mode (s : State) (r : Reg) (v : Byte) : (s.setReg r v).mode = s.mode := by
  cases r <;> rfl
@[simp] theorem State.setReg_eu (s : State) (r : Reg) (v : Byte) : (s.setReg r v).eu = s.eu := by
  cases r <;> rfl
@[simp] theorem State.setReg_halted (s : State) (r : Reg) (v : Byte) : (s.setReg r v).halted = s.halted := by
  cases r <;> rfl
@[simp] theorem State.setReg_fault (s : State) (r : Reg) (v : Byte) : (s.setReg r v).fault = s.fault := by
  cases r <;> rfl
@[simp] theorem State.setReg_events (s : State) (r : Reg) (v : Byte) : (s.setReg r v).events = s.events := by
  cases r <;> rfl
@[simp] theorem State.setReg_cfg (s : State) (r : Reg) (v : Byte) : (s.setReg r v).cfg = s.cfg := by
  cases r <;> rfl
@[simp] theorem State.setReg_portAnswers (s : State) (r : Reg) (v : Byte) : (s.setReg r v).portAnswers = s.portAnswers := by
  cases r <;> rfl
@[simp] theorem State.setReg_portLoads (s : State) (r : Reg) (v : Byte) : (s.setReg r v).portLoads = s.portLoads := by
  cases r <;> rfl

/-! ### The instruction cache controller -/

theorem ISlot.hits_iff (sl : ISlot) (seg : Segment) (page : PageNum) :
    sl.hits seg page = true ↔ sl.valid = true ∧ sl.seg = seg ∧ sl.page = page := by
  simp [ISlot.hits, and_assoc]

theorem DSlot.hits_iff (sl : DSlot) (seg : Segment) (page : PageNum) :
    sl.hits seg page = true ↔ sl.valid = true ∧ sl.seg = seg ∧ sl.page = page := by
  simp [DSlot.hits, and_assoc]

theorem State.icacheCtl_of_hit {s : State} {seg : Segment} {page : PageNum} (h : s.islot.hits seg page = true) :
    s.icacheCtl seg page = s := if_pos h

theorem State.icacheCtl_of_miss {s : State} {seg : Segment} {page : PageNum} (h : s.islot.hits seg page = false) :
    s.icacheCtl seg page =
      { s with islot := { seg := seg, page := page, valid := true, lines := s.store.clone seg page } } :=
  if_neg (by simp [h])

/-- After the controller the slot is valid and holds the page asked for. -/
theorem State.icacheCtl_hits (s : State) (seg : Segment) (page : PageNum) :
    (s.icacheCtl seg page).islot.hits seg page = true := by
  by_cases h : s.islot.hits seg page = true
  · rw [State.icacheCtl_of_hit h, h]
  · rw [State.icacheCtl_of_miss (by simpa using h)]
    simp [ISlot.hits]

/-! ### What `icacheCtl` leaves alone -/

@[simp] theorem State.icacheCtl_a (s : State) (seg : Segment) (page : PageNum) : (s.icacheCtl seg page).a = s.a := by
  unfold State.icacheCtl; split <;> rfl
@[simp] theorem State.icacheCtl_r1 (s : State) (seg : Segment) (page : PageNum) : (s.icacheCtl seg page).r1 = s.r1 := by
  unfold State.icacheCtl; split <;> rfl
@[simp] theorem State.icacheCtl_r2 (s : State) (seg : Segment) (page : PageNum) : (s.icacheCtl seg page).r2 = s.r2 := by
  unfold State.icacheCtl; split <;> rfl
@[simp] theorem State.icacheCtl_r3 (s : State) (seg : Segment) (page : PageNum) : (s.icacheCtl seg page).r3 = s.r3 := by
  unfold State.icacheCtl; split <;> rfl
@[simp] theorem State.icacheCtl_r4 (s : State) (seg : Segment) (page : PageNum) : (s.icacheCtl seg page).r4 = s.r4 := by
  unfold State.icacheCtl; split <;> rfl
@[simp] theorem State.icacheCtl_r5 (s : State) (seg : Segment) (page : PageNum) : (s.icacheCtl seg page).r5 = s.r5 := by
  unfold State.icacheCtl; split <;> rfl
@[simp] theorem State.icacheCtl_r6 (s : State) (seg : Segment) (page : PageNum) : (s.icacheCtl seg page).r6 = s.r6 := by
  unfold State.icacheCtl; split <;> rfl
@[simp] theorem State.icacheCtl_r7 (s : State) (seg : Segment) (page : PageNum) : (s.icacheCtl seg page).r7 = s.r7 := by
  unfold State.icacheCtl; split <;> rfl
@[simp] theorem State.icacheCtl_flags (s : State) (seg : Segment) (page : PageNum) : (s.icacheCtl seg page).flags = s.flags := by
  unfold State.icacheCtl; split <;> rfl
@[simp] theorem State.icacheCtl_cmod (s : State) (seg : Segment) (page : PageNum) : (s.icacheCtl seg page).cmod = s.cmod := by
  unfold State.icacheCtl; split <;> rfl
@[simp] theorem State.icacheCtl_ptr (s : State) (seg : Segment) (page : PageNum) : (s.icacheCtl seg page).ptr = s.ptr := by
  unfold State.icacheCtl; split <;> rfl
@[simp] theorem State.icacheCtl_fwdb (s : State) (seg : Segment) (page : PageNum) : (s.icacheCtl seg page).fwdb = s.fwdb := by
  unfold State.icacheCtl; split <;> rfl
@[simp] theorem State.icacheCtl_pstack (s : State) (seg : Segment) (page : PageNum) : (s.icacheCtl seg page).pstack = s.pstack := by
  unfold State.icacheCtl; split <;> rfl
@[simp] theorem State.icacheCtl_cstack (s : State) (seg : Segment) (page : PageNum) : (s.icacheCtl seg page).cstack = s.cstack := by
  unfold State.icacheCtl; split <;> rfl
@[simp] theorem State.icacheCtl_line (s : State) (seg : Segment) (page : PageNum) : (s.icacheCtl seg page).line = s.line := by
  unfold State.icacheCtl; split <;> rfl
@[simp] theorem State.icacheCtl_dslot (s : State) (seg : Segment) (page : PageNum) : (s.icacheCtl seg page).dslot = s.dslot := by
  unfold State.icacheCtl; split <;> rfl
@[simp] theorem State.icacheCtl_store (s : State) (seg : Segment) (page : PageNum) : (s.icacheCtl seg page).store = s.store := by
  unfold State.icacheCtl; split <;> rfl
@[simp] theorem State.icacheCtl_iseg (s : State) (seg : Segment) (page : PageNum) : (s.icacheCtl seg page).iseg = s.iseg := by
  unfold State.icacheCtl; split <;> rfl
@[simp] theorem State.icacheCtl_ds (s : State) (seg : Segment) (page : PageNum) : (s.icacheCtl seg page).ds = s.ds := by
  unfold State.icacheCtl; split <;> rfl
@[simp] theorem State.icacheCtl_kds (s : State) (seg : Segment) (page : PageNum) : (s.icacheCtl seg page).kds = s.kds := by
  unfold State.icacheCtl; split <;> rfl
@[simp] theorem State.icacheCtl_pid (s : State) (seg : Segment) (page : PageNum) : (s.icacheCtl seg page).pid = s.pid := by
  unfold State.icacheCtl; split <;> rfl
@[simp] theorem State.icacheCtl_mode (s : State) (seg : Segment) (page : PageNum) : (s.icacheCtl seg page).mode = s.mode := by
  unfold State.icacheCtl; split <;> rfl
@[simp] theorem State.icacheCtl_eu (s : State) (seg : Segment) (page : PageNum) : (s.icacheCtl seg page).eu = s.eu := by
  unfold State.icacheCtl; split <;> rfl
@[simp] theorem State.icacheCtl_halted (s : State) (seg : Segment) (page : PageNum) : (s.icacheCtl seg page).halted = s.halted := by
  unfold State.icacheCtl; split <;> rfl
@[simp] theorem State.icacheCtl_fault (s : State) (seg : Segment) (page : PageNum) : (s.icacheCtl seg page).fault = s.fault := by
  unfold State.icacheCtl; split <;> rfl
@[simp] theorem State.icacheCtl_events (s : State) (seg : Segment) (page : PageNum) : (s.icacheCtl seg page).events = s.events := by
  unfold State.icacheCtl; split <;> rfl
@[simp] theorem State.icacheCtl_cfg (s : State) (seg : Segment) (page : PageNum) : (s.icacheCtl seg page).cfg = s.cfg := by
  unfold State.icacheCtl; split <;> rfl
@[simp] theorem State.icacheCtl_portAnswers (s : State) (seg : Segment) (page : PageNum) : (s.icacheCtl seg page).portAnswers = s.portAnswers := by
  unfold State.icacheCtl; split <;> rfl
@[simp] theorem State.icacheCtl_portLoads (s : State) (seg : Segment) (page : PageNum) : (s.icacheCtl seg page).portLoads = s.portLoads := by
  unfold State.icacheCtl; split <;> rfl

/-! ### What `transfer` leaves alone -/

@[simp] theorem State.transfer_a (s : State) (addr : Byte) : (s.transfer addr).a = s.a := by
  simp [State.transfer]
@[simp] theorem State.transfer_r1 (s : State) (addr : Byte) : (s.transfer addr).r1 = s.r1 := by
  simp [State.transfer]
@[simp] theorem State.transfer_r2 (s : State) (addr : Byte) : (s.transfer addr).r2 = s.r2 := by
  simp [State.transfer]
@[simp] theorem State.transfer_r3 (s : State) (addr : Byte) : (s.transfer addr).r3 = s.r3 := by
  simp [State.transfer]
@[simp] theorem State.transfer_r4 (s : State) (addr : Byte) : (s.transfer addr).r4 = s.r4 := by
  simp [State.transfer]
@[simp] theorem State.transfer_r5 (s : State) (addr : Byte) : (s.transfer addr).r5 = s.r5 := by
  simp [State.transfer]
@[simp] theorem State.transfer_r6 (s : State) (addr : Byte) : (s.transfer addr).r6 = s.r6 := by
  simp [State.transfer]
@[simp] theorem State.transfer_r7 (s : State) (addr : Byte) : (s.transfer addr).r7 = s.r7 := by
  simp [State.transfer]
@[simp] theorem State.transfer_flags (s : State) (addr : Byte) : (s.transfer addr).flags = s.flags := by
  simp [State.transfer]
@[simp] theorem State.transfer_cmod (s : State) (addr : Byte) : (s.transfer addr).cmod = s.cmod := by
  simp [State.transfer]
@[simp] theorem State.transfer_ptr (s : State) (addr : Byte) : (s.transfer addr).ptr = s.ptr := by
  simp [State.transfer]
@[simp] theorem State.transfer_fwdb (s : State) (addr : Byte) : (s.transfer addr).fwdb = s.fwdb := by
  simp [State.transfer]
@[simp] theorem State.transfer_pstack (s : State) (addr : Byte) : (s.transfer addr).pstack = s.pstack := by
  simp [State.transfer]
@[simp] theorem State.transfer_cstack (s : State) (addr : Byte) : (s.transfer addr).cstack = s.cstack := by
  simp [State.transfer]
@[simp] theorem State.transfer_dslot (s : State) (addr : Byte) : (s.transfer addr).dslot = s.dslot := by
  simp [State.transfer]
@[simp] theorem State.transfer_store (s : State) (addr : Byte) : (s.transfer addr).store = s.store := by
  simp [State.transfer]
@[simp] theorem State.transfer_iseg (s : State) (addr : Byte) : (s.transfer addr).iseg = s.iseg := by
  simp [State.transfer]
@[simp] theorem State.transfer_ds (s : State) (addr : Byte) : (s.transfer addr).ds = s.ds := by
  simp [State.transfer]
@[simp] theorem State.transfer_kds (s : State) (addr : Byte) : (s.transfer addr).kds = s.kds := by
  simp [State.transfer]
@[simp] theorem State.transfer_pid (s : State) (addr : Byte) : (s.transfer addr).pid = s.pid := by
  simp [State.transfer]
@[simp] theorem State.transfer_mode (s : State) (addr : Byte) : (s.transfer addr).mode = s.mode := by
  simp [State.transfer]
@[simp] theorem State.transfer_halted (s : State) (addr : Byte) : (s.transfer addr).halted = s.halted := by
  simp [State.transfer]
@[simp] theorem State.transfer_fault (s : State) (addr : Byte) : (s.transfer addr).fault = s.fault := by
  simp [State.transfer]
@[simp] theorem State.transfer_events (s : State) (addr : Byte) : (s.transfer addr).events = s.events := by
  simp [State.transfer]
@[simp] theorem State.transfer_cfg (s : State) (addr : Byte) : (s.transfer addr).cfg = s.cfg := by
  simp [State.transfer]
@[simp] theorem State.transfer_portAnswers (s : State) (addr : Byte) : (s.transfer addr).portAnswers = s.portAnswers := by
  simp [State.transfer]
@[simp] theorem State.transfer_portLoads (s : State) (addr : Byte) : (s.transfer addr).portLoads = s.portLoads := by
  simp [State.transfer]

@[simp] theorem State.transfer_line (s : State) (addr : Byte) : (s.transfer addr).line = lineOf addr := rfl

@[simp] theorem State.transfer_eu (s : State) (addr : Byte) : (s.transfer addr).eu = .fetch := rfl

@[simp] theorem State.transfer_islot (s : State) (addr : Byte) :
    (s.transfer addr).islot = (s.icacheCtl s.iseg (pageOf addr)).islot := rfl

/-! ### The data cache controller -/

theorem State.writeBack_of_dirty {s : State} (h : s.dslot.dirty = true) :
    s.writeBack = { s with
      store := s.store.put s.dslot.seg s.dslot.page s.dslot.lines
      events := s.events ++ [.writeBack s.dslot.seg s.dslot.page] } := if_pos h

theorem State.writeBack_of_clean {s : State} (h : s.dslot.dirty = false) : s.writeBack = s := if_neg (by simp [h])

theorem State.dcacheCtl_of_hit {s : State} {seg : Segment} {page : PageNum} (h : s.dslot.hits seg page = true) :
    s.dcacheCtl seg page = s := if_pos h

theorem State.dcacheCtl_of_miss {s : State} {seg : Segment} {page : PageNum} (h : s.dslot.hits seg page = false) :
    s.dcacheCtl seg page = s.writeBack.loadData seg page := if_neg (by simp [h])

/-- What `DCacheCtl` does, in its three cases: a hit, a miss on a clean slot, a miss on a dirty slot. -/
theorem State.dcacheCtl_cases (s : State) (seg : Segment) (page : PageNum) :
    (s.dslot.hits seg page = true ∧ s.dcacheCtl seg page = s) ∨
    (s.dslot.hits seg page = false ∧ s.dslot.dirty = false ∧ s.dcacheCtl seg page = s.loadData seg page) ∨
    (s.dslot.hits seg page = false ∧ s.dslot.dirty = true ∧
      s.dcacheCtl seg page = ({ s with
        store := s.store.put s.dslot.seg s.dslot.page s.dslot.lines
        events := s.events ++ [.writeBack s.dslot.seg s.dslot.page] } : State).loadData seg page) := by
  cases h : s.dslot.hits seg page
  · cases hd : s.dslot.dirty
    · exact .inr (.inl ⟨rfl, rfl, by rw [State.dcacheCtl_of_miss h, State.writeBack_of_clean hd]⟩)
    · exact .inr (.inr ⟨rfl, rfl, by rw [State.dcacheCtl_of_miss h, State.writeBack_of_dirty hd]⟩)
  · exact .inl ⟨rfl, State.dcacheCtl_of_hit h⟩

/-- After the controller the slot is valid and holds the page asked for. -/
theorem State.dcacheCtl_hits (s : State) (seg : Segment) (page : PageNum) :
    (s.dcacheCtl seg page).dslot.hits seg page = true := by
  rcases s.dcacheCtl_cases seg page with ⟨h, e⟩ | ⟨_, _, e⟩ | ⟨_, _, e⟩
  · rw [e, h]
  · rw [e]
    simp [DSlot.hits]
  · rw [e]
    simp [DSlot.hits]

/-! ### What `writeBack` leaves alone -/

@[simp] theorem State.writeBack_a (s : State) : (s.writeBack).a = s.a := by
  unfold State.writeBack; split <;> rfl
@[simp] theorem State.writeBack_r1 (s : State) : (s.writeBack).r1 = s.r1 := by
  unfold State.writeBack; split <;> rfl
@[simp] theorem State.writeBack_r2 (s : State) : (s.writeBack).r2 = s.r2 := by
  unfold State.writeBack; split <;> rfl
@[simp] theorem State.writeBack_r3 (s : State) : (s.writeBack).r3 = s.r3 := by
  unfold State.writeBack; split <;> rfl
@[simp] theorem State.writeBack_r4 (s : State) : (s.writeBack).r4 = s.r4 := by
  unfold State.writeBack; split <;> rfl
@[simp] theorem State.writeBack_r5 (s : State) : (s.writeBack).r5 = s.r5 := by
  unfold State.writeBack; split <;> rfl
@[simp] theorem State.writeBack_r6 (s : State) : (s.writeBack).r6 = s.r6 := by
  unfold State.writeBack; split <;> rfl
@[simp] theorem State.writeBack_r7 (s : State) : (s.writeBack).r7 = s.r7 := by
  unfold State.writeBack; split <;> rfl
@[simp] theorem State.writeBack_flags (s : State) : (s.writeBack).flags = s.flags := by
  unfold State.writeBack; split <;> rfl
@[simp] theorem State.writeBack_cmod (s : State) : (s.writeBack).cmod = s.cmod := by
  unfold State.writeBack; split <;> rfl
@[simp] theorem State.writeBack_ptr (s : State) : (s.writeBack).ptr = s.ptr := by
  unfold State.writeBack; split <;> rfl
@[simp] theorem State.writeBack_fwdb (s : State) : (s.writeBack).fwdb = s.fwdb := by
  unfold State.writeBack; split <;> rfl
@[simp] theorem State.writeBack_pstack (s : State) : (s.writeBack).pstack = s.pstack := by
  unfold State.writeBack; split <;> rfl
@[simp] theorem State.writeBack_cstack (s : State) : (s.writeBack).cstack = s.cstack := by
  unfold State.writeBack; split <;> rfl
@[simp] theorem State.writeBack_line (s : State) : (s.writeBack).line = s.line := by
  unfold State.writeBack; split <;> rfl
@[simp] theorem State.writeBack_islot (s : State) : (s.writeBack).islot = s.islot := by
  unfold State.writeBack; split <;> rfl
@[simp] theorem State.writeBack_dslot (s : State) : (s.writeBack).dslot = s.dslot := by
  unfold State.writeBack; split <;> rfl
@[simp] theorem State.writeBack_iseg (s : State) : (s.writeBack).iseg = s.iseg := by
  unfold State.writeBack; split <;> rfl
@[simp] theorem State.writeBack_ds (s : State) : (s.writeBack).ds = s.ds := by
  unfold State.writeBack; split <;> rfl
@[simp] theorem State.writeBack_kds (s : State) : (s.writeBack).kds = s.kds := by
  unfold State.writeBack; split <;> rfl
@[simp] theorem State.writeBack_pid (s : State) : (s.writeBack).pid = s.pid := by
  unfold State.writeBack; split <;> rfl
@[simp] theorem State.writeBack_mode (s : State) : (s.writeBack).mode = s.mode := by
  unfold State.writeBack; split <;> rfl
@[simp] theorem State.writeBack_eu (s : State) : (s.writeBack).eu = s.eu := by
  unfold State.writeBack; split <;> rfl
@[simp] theorem State.writeBack_halted (s : State) : (s.writeBack).halted = s.halted := by
  unfold State.writeBack; split <;> rfl
@[simp] theorem State.writeBack_fault (s : State) : (s.writeBack).fault = s.fault := by
  unfold State.writeBack; split <;> rfl
@[simp] theorem State.writeBack_cfg (s : State) : (s.writeBack).cfg = s.cfg := by
  unfold State.writeBack; split <;> rfl
@[simp] theorem State.writeBack_portAnswers (s : State) : (s.writeBack).portAnswers = s.portAnswers := by
  unfold State.writeBack; split <;> rfl
@[simp] theorem State.writeBack_portLoads (s : State) : (s.writeBack).portLoads = s.portLoads := by
  unfold State.writeBack; split <;> rfl

/-! ### What `dcacheCtl` leaves alone -/

@[simp] theorem State.dcacheCtl_a (s : State) (seg : Segment) (page : PageNum) : (s.dcacheCtl seg page).a = s.a := by
  unfold State.dcacheCtl; split <;> simp
@[simp] theorem State.dcacheCtl_r1 (s : State) (seg : Segment) (page : PageNum) : (s.dcacheCtl seg page).r1 = s.r1 := by
  unfold State.dcacheCtl; split <;> simp
@[simp] theorem State.dcacheCtl_r2 (s : State) (seg : Segment) (page : PageNum) : (s.dcacheCtl seg page).r2 = s.r2 := by
  unfold State.dcacheCtl; split <;> simp
@[simp] theorem State.dcacheCtl_r3 (s : State) (seg : Segment) (page : PageNum) : (s.dcacheCtl seg page).r3 = s.r3 := by
  unfold State.dcacheCtl; split <;> simp
@[simp] theorem State.dcacheCtl_r4 (s : State) (seg : Segment) (page : PageNum) : (s.dcacheCtl seg page).r4 = s.r4 := by
  unfold State.dcacheCtl; split <;> simp
@[simp] theorem State.dcacheCtl_r5 (s : State) (seg : Segment) (page : PageNum) : (s.dcacheCtl seg page).r5 = s.r5 := by
  unfold State.dcacheCtl; split <;> simp
@[simp] theorem State.dcacheCtl_r6 (s : State) (seg : Segment) (page : PageNum) : (s.dcacheCtl seg page).r6 = s.r6 := by
  unfold State.dcacheCtl; split <;> simp
@[simp] theorem State.dcacheCtl_r7 (s : State) (seg : Segment) (page : PageNum) : (s.dcacheCtl seg page).r7 = s.r7 := by
  unfold State.dcacheCtl; split <;> simp
@[simp] theorem State.dcacheCtl_flags (s : State) (seg : Segment) (page : PageNum) : (s.dcacheCtl seg page).flags = s.flags := by
  unfold State.dcacheCtl; split <;> simp
@[simp] theorem State.dcacheCtl_cmod (s : State) (seg : Segment) (page : PageNum) : (s.dcacheCtl seg page).cmod = s.cmod := by
  unfold State.dcacheCtl; split <;> simp
@[simp] theorem State.dcacheCtl_ptr (s : State) (seg : Segment) (page : PageNum) : (s.dcacheCtl seg page).ptr = s.ptr := by
  unfold State.dcacheCtl; split <;> simp
@[simp] theorem State.dcacheCtl_fwdb (s : State) (seg : Segment) (page : PageNum) : (s.dcacheCtl seg page).fwdb = s.fwdb := by
  unfold State.dcacheCtl; split <;> simp
@[simp] theorem State.dcacheCtl_pstack (s : State) (seg : Segment) (page : PageNum) : (s.dcacheCtl seg page).pstack = s.pstack := by
  unfold State.dcacheCtl; split <;> simp
@[simp] theorem State.dcacheCtl_cstack (s : State) (seg : Segment) (page : PageNum) : (s.dcacheCtl seg page).cstack = s.cstack := by
  unfold State.dcacheCtl; split <;> simp
@[simp] theorem State.dcacheCtl_line (s : State) (seg : Segment) (page : PageNum) : (s.dcacheCtl seg page).line = s.line := by
  unfold State.dcacheCtl; split <;> simp
@[simp] theorem State.dcacheCtl_islot (s : State) (seg : Segment) (page : PageNum) : (s.dcacheCtl seg page).islot = s.islot := by
  unfold State.dcacheCtl; split <;> simp
@[simp] theorem State.dcacheCtl_iseg (s : State) (seg : Segment) (page : PageNum) : (s.dcacheCtl seg page).iseg = s.iseg := by
  unfold State.dcacheCtl; split <;> simp
@[simp] theorem State.dcacheCtl_ds (s : State) (seg : Segment) (page : PageNum) : (s.dcacheCtl seg page).ds = s.ds := by
  unfold State.dcacheCtl; split <;> simp
@[simp] theorem State.dcacheCtl_kds (s : State) (seg : Segment) (page : PageNum) : (s.dcacheCtl seg page).kds = s.kds := by
  unfold State.dcacheCtl; split <;> simp
@[simp] theorem State.dcacheCtl_pid (s : State) (seg : Segment) (page : PageNum) : (s.dcacheCtl seg page).pid = s.pid := by
  unfold State.dcacheCtl; split <;> simp
@[simp] theorem State.dcacheCtl_mode (s : State) (seg : Segment) (page : PageNum) : (s.dcacheCtl seg page).mode = s.mode := by
  unfold State.dcacheCtl; split <;> simp
@[simp] theorem State.dcacheCtl_eu (s : State) (seg : Segment) (page : PageNum) : (s.dcacheCtl seg page).eu = s.eu := by
  unfold State.dcacheCtl; split <;> simp
@[simp] theorem State.dcacheCtl_halted (s : State) (seg : Segment) (page : PageNum) : (s.dcacheCtl seg page).halted = s.halted := by
  unfold State.dcacheCtl; split <;> simp
@[simp] theorem State.dcacheCtl_fault (s : State) (seg : Segment) (page : PageNum) : (s.dcacheCtl seg page).fault = s.fault := by
  unfold State.dcacheCtl; split <;> simp
@[simp] theorem State.dcacheCtl_cfg (s : State) (seg : Segment) (page : PageNum) : (s.dcacheCtl seg page).cfg = s.cfg := by
  unfold State.dcacheCtl; split <;> simp
@[simp] theorem State.dcacheCtl_portAnswers (s : State) (seg : Segment) (page : PageNum) : (s.dcacheCtl seg page).portAnswers = s.portAnswers := by
  unfold State.dcacheCtl; split <;> simp
@[simp] theorem State.dcacheCtl_portLoads (s : State) (seg : Segment) (page : PageNum) : (s.dcacheCtl seg page).portLoads = s.portLoads := by
  unfold State.dcacheCtl; split <;> simp

/-! ### What `touch` leaves alone -/

@[simp] theorem State.touch_a (s : State) (addr : Byte) : (s.touch addr).a = s.a := by
  simp [State.touch]
@[simp] theorem State.touch_r1 (s : State) (addr : Byte) : (s.touch addr).r1 = s.r1 := by
  simp [State.touch]
@[simp] theorem State.touch_r2 (s : State) (addr : Byte) : (s.touch addr).r2 = s.r2 := by
  simp [State.touch]
@[simp] theorem State.touch_r3 (s : State) (addr : Byte) : (s.touch addr).r3 = s.r3 := by
  simp [State.touch]
@[simp] theorem State.touch_r4 (s : State) (addr : Byte) : (s.touch addr).r4 = s.r4 := by
  simp [State.touch]
@[simp] theorem State.touch_r5 (s : State) (addr : Byte) : (s.touch addr).r5 = s.r5 := by
  simp [State.touch]
@[simp] theorem State.touch_r6 (s : State) (addr : Byte) : (s.touch addr).r6 = s.r6 := by
  simp [State.touch]
@[simp] theorem State.touch_r7 (s : State) (addr : Byte) : (s.touch addr).r7 = s.r7 := by
  simp [State.touch]
@[simp] theorem State.touch_flags (s : State) (addr : Byte) : (s.touch addr).flags = s.flags := by
  simp [State.touch]
@[simp] theorem State.touch_cmod (s : State) (addr : Byte) : (s.touch addr).cmod = s.cmod := by
  simp [State.touch]
@[simp] theorem State.touch_ptr (s : State) (addr : Byte) : (s.touch addr).ptr = s.ptr := by
  simp [State.touch]
@[simp] theorem State.touch_fwdb (s : State) (addr : Byte) : (s.touch addr).fwdb = s.fwdb := by
  simp [State.touch]
@[simp] theorem State.touch_pstack (s : State) (addr : Byte) : (s.touch addr).pstack = s.pstack := by
  simp [State.touch]
@[simp] theorem State.touch_cstack (s : State) (addr : Byte) : (s.touch addr).cstack = s.cstack := by
  simp [State.touch]
@[simp] theorem State.touch_line (s : State) (addr : Byte) : (s.touch addr).line = s.line := by
  simp [State.touch]
@[simp] theorem State.touch_islot (s : State) (addr : Byte) : (s.touch addr).islot = s.islot := by
  simp [State.touch]
@[simp] theorem State.touch_iseg (s : State) (addr : Byte) : (s.touch addr).iseg = s.iseg := by
  simp [State.touch]
@[simp] theorem State.touch_ds (s : State) (addr : Byte) : (s.touch addr).ds = s.ds := by
  simp [State.touch]
@[simp] theorem State.touch_kds (s : State) (addr : Byte) : (s.touch addr).kds = s.kds := by
  simp [State.touch]
@[simp] theorem State.touch_pid (s : State) (addr : Byte) : (s.touch addr).pid = s.pid := by
  simp [State.touch]
@[simp] theorem State.touch_mode (s : State) (addr : Byte) : (s.touch addr).mode = s.mode := by
  simp [State.touch]
@[simp] theorem State.touch_eu (s : State) (addr : Byte) : (s.touch addr).eu = s.eu := by
  simp [State.touch]
@[simp] theorem State.touch_halted (s : State) (addr : Byte) : (s.touch addr).halted = s.halted := by
  simp [State.touch]
@[simp] theorem State.touch_fault (s : State) (addr : Byte) : (s.touch addr).fault = s.fault := by
  simp [State.touch]
@[simp] theorem State.touch_cfg (s : State) (addr : Byte) : (s.touch addr).cfg = s.cfg := by
  simp [State.touch]
@[simp] theorem State.touch_portAnswers (s : State) (addr : Byte) : (s.touch addr).portAnswers = s.portAnswers := by
  simp [State.touch]
@[simp] theorem State.touch_portLoads (s : State) (addr : Byte) : (s.touch addr).portLoads = s.portLoads := by
  simp [State.touch]

/-! ### What `memWrite` leaves alone -/

@[simp] theorem State.memWrite_a (s : State) (addr v : Byte) : (s.memWrite addr v).a = s.a := by
  simp [State.memWrite]
@[simp] theorem State.memWrite_r1 (s : State) (addr v : Byte) : (s.memWrite addr v).r1 = s.r1 := by
  simp [State.memWrite]
@[simp] theorem State.memWrite_r2 (s : State) (addr v : Byte) : (s.memWrite addr v).r2 = s.r2 := by
  simp [State.memWrite]
@[simp] theorem State.memWrite_r3 (s : State) (addr v : Byte) : (s.memWrite addr v).r3 = s.r3 := by
  simp [State.memWrite]
@[simp] theorem State.memWrite_r4 (s : State) (addr v : Byte) : (s.memWrite addr v).r4 = s.r4 := by
  simp [State.memWrite]
@[simp] theorem State.memWrite_r5 (s : State) (addr v : Byte) : (s.memWrite addr v).r5 = s.r5 := by
  simp [State.memWrite]
@[simp] theorem State.memWrite_r6 (s : State) (addr v : Byte) : (s.memWrite addr v).r6 = s.r6 := by
  simp [State.memWrite]
@[simp] theorem State.memWrite_r7 (s : State) (addr v : Byte) : (s.memWrite addr v).r7 = s.r7 := by
  simp [State.memWrite]
@[simp] theorem State.memWrite_flags (s : State) (addr v : Byte) : (s.memWrite addr v).flags = s.flags := by
  simp [State.memWrite]
@[simp] theorem State.memWrite_cmod (s : State) (addr v : Byte) : (s.memWrite addr v).cmod = s.cmod := by
  simp [State.memWrite]
@[simp] theorem State.memWrite_ptr (s : State) (addr v : Byte) : (s.memWrite addr v).ptr = s.ptr := by
  simp [State.memWrite]
@[simp] theorem State.memWrite_fwdb (s : State) (addr v : Byte) : (s.memWrite addr v).fwdb = s.fwdb := by
  simp [State.memWrite]
@[simp] theorem State.memWrite_pstack (s : State) (addr v : Byte) : (s.memWrite addr v).pstack = s.pstack := by
  simp [State.memWrite]
@[simp] theorem State.memWrite_cstack (s : State) (addr v : Byte) : (s.memWrite addr v).cstack = s.cstack := by
  simp [State.memWrite]
@[simp] theorem State.memWrite_line (s : State) (addr v : Byte) : (s.memWrite addr v).line = s.line := by
  simp [State.memWrite]
@[simp] theorem State.memWrite_islot (s : State) (addr v : Byte) : (s.memWrite addr v).islot = s.islot := by
  simp [State.memWrite]
@[simp] theorem State.memWrite_iseg (s : State) (addr v : Byte) : (s.memWrite addr v).iseg = s.iseg := by
  simp [State.memWrite]
@[simp] theorem State.memWrite_ds (s : State) (addr v : Byte) : (s.memWrite addr v).ds = s.ds := by
  simp [State.memWrite]
@[simp] theorem State.memWrite_kds (s : State) (addr v : Byte) : (s.memWrite addr v).kds = s.kds := by
  simp [State.memWrite]
@[simp] theorem State.memWrite_pid (s : State) (addr v : Byte) : (s.memWrite addr v).pid = s.pid := by
  simp [State.memWrite]
@[simp] theorem State.memWrite_mode (s : State) (addr v : Byte) : (s.memWrite addr v).mode = s.mode := by
  simp [State.memWrite]
@[simp] theorem State.memWrite_eu (s : State) (addr v : Byte) : (s.memWrite addr v).eu = s.eu := by
  simp [State.memWrite]
@[simp] theorem State.memWrite_halted (s : State) (addr v : Byte) : (s.memWrite addr v).halted = s.halted := by
  simp [State.memWrite]
@[simp] theorem State.memWrite_fault (s : State) (addr v : Byte) : (s.memWrite addr v).fault = s.fault := by
  simp [State.memWrite]
@[simp] theorem State.memWrite_cfg (s : State) (addr v : Byte) : (s.memWrite addr v).cfg = s.cfg := by
  simp [State.memWrite]
@[simp] theorem State.memWrite_portAnswers (s : State) (addr v : Byte) : (s.memWrite addr v).portAnswers = s.portAnswers := by
  simp [State.memWrite]
@[simp] theorem State.memWrite_portLoads (s : State) (addr v : Byte) : (s.memWrite addr v).portLoads = s.portLoads := by
  simp [State.memWrite]

@[simp] theorem State.memWrite_store (s : State) (addr v : Byte) : (s.memWrite addr v).store = (s.touch addr).store := rfl

@[simp] theorem State.memWrite_events (s : State) (addr v : Byte) : (s.memWrite addr v).events = (s.touch addr).events := rfl

/-- After a write the slot holds the byte at its line, every other line as it was, and is dirty. -/
theorem State.memWrite_dslot_get (s : State) (addr v : Byte) (l : Nat) :
    (s.memWrite addr v).dslot.lines.get l = if l = lineOf addr then some v else (s.touch addr).dslot.lines.get l := by
  simp [State.memWrite, Memory.get_set]

/-! ### The data segment -/

/-- The effective data segment depends on the three segment registers alone. -/
theorem State.dseg_congr {s t : State} (h1 : t.kds = s.kds) (h2 : t.ds = s.ds) (h3 : t.iseg = s.iseg) :
    t.dseg = s.dseg := by
  unfold State.dseg
  rw [h1, h2, h3]

/-! ### Ports and the syscall table -/

theorem deviceIn_isSome_iff (m : List PortEntry) (p : PortAddr) :
    (deviceIn m p).isSome = true ↔ ∃ e ∈ m, e.port = p := by
  induction m with
  | nil => simp [deviceIn]
  | cons e rest ih => by_cases h : e.port = p <;> simp [deviceIn, h, ih]

theorem State.hasDevice_iff (s : State) (p : PortAddr) : s.hasDevice p = true ↔ ∃ e ∈ s.cfg.portMap, e.port = p :=
  deviceIn_isSome_iff _ _

theorem syscallIn_eq_none_iff (m : List SyscallEntry) (n : Byte) : syscallIn m n = none ↔ ∀ e ∈ m, e.number ≠ n := by
  induction m with
  | nil => simp [syscallIn]
  | cons e rest ih => by_cases h : e.number = n <;> simp [syscallIn, h, ih]

theorem syscallIn_mem {m : List SyscallEntry} {n : Byte} {e : SyscallEntry} (h : syscallIn m n = some e) :
    e ∈ m ∧ e.number = n := by
  induction m with
  | nil => simp [syscallIn] at h
  | cons f rest ih =>
    by_cases hf : f.number = n
    · simp only [syscallIn, if_pos hf, Option.some.injEq] at h
      subst h
      exact ⟨List.mem_cons_self, hf⟩
    · simp only [syscallIn, if_neg hf] at h
      exact ⟨List.mem_cons_of_mem _ (ih h).1, (ih h).2⟩

/-! ### What `portStore` leaves alone -/

@[simp] theorem State.portStore_a (s : State) (p : PortAddr) (v : Byte) : (s.portStore p v).a = s.a := by
  unfold State.portStore; split <;> rfl
@[simp] theorem State.portStore_r1 (s : State) (p : PortAddr) (v : Byte) : (s.portStore p v).r1 = s.r1 := by
  unfold State.portStore; split <;> rfl
@[simp] theorem State.portStore_r2 (s : State) (p : PortAddr) (v : Byte) : (s.portStore p v).r2 = s.r2 := by
  unfold State.portStore; split <;> rfl
@[simp] theorem State.portStore_r3 (s : State) (p : PortAddr) (v : Byte) : (s.portStore p v).r3 = s.r3 := by
  unfold State.portStore; split <;> rfl
@[simp] theorem State.portStore_r4 (s : State) (p : PortAddr) (v : Byte) : (s.portStore p v).r4 = s.r4 := by
  unfold State.portStore; split <;> rfl
@[simp] theorem State.portStore_r5 (s : State) (p : PortAddr) (v : Byte) : (s.portStore p v).r5 = s.r5 := by
  unfold State.portStore; split <;> rfl
@[simp] theorem State.portStore_r6 (s : State) (p : PortAddr) (v : Byte) : (s.portStore p v).r6 = s.r6 := by
  unfold State.portStore; split <;> rfl
@[simp] theorem State.portStore_r7 (s : State) (p : PortAddr) (v : Byte) : (s.portStore p v).r7 = s.r7 := by
  unfold State.portStore; split <;> rfl
@[simp] theorem State.portStore_flags (s : State) (p : PortAddr) (v : Byte) : (s.portStore p v).flags = s.flags := by
  unfold State.portStore; split <;> rfl
@[simp] theorem State.portStore_cmod (s : State) (p : PortAddr) (v : Byte) : (s.portStore p v).cmod = s.cmod := by
  unfold State.portStore; split <;> rfl
@[simp] theorem State.portStore_ptr (s : State) (p : PortAddr) (v : Byte) : (s.portStore p v).ptr = s.ptr := by
  unfold State.portStore; split <;> rfl
@[simp] theorem State.portStore_fwdb (s : State) (p : PortAddr) (v : Byte) : (s.portStore p v).fwdb = s.fwdb := by
  unfold State.portStore; split <;> rfl
@[simp] theorem State.portStore_pstack (s : State) (p : PortAddr) (v : Byte) : (s.portStore p v).pstack = s.pstack := by
  unfold State.portStore; split <;> rfl
@[simp] theorem State.portStore_cstack (s : State) (p : PortAddr) (v : Byte) : (s.portStore p v).cstack = s.cstack := by
  unfold State.portStore; split <;> rfl
@[simp] theorem State.portStore_line (s : State) (p : PortAddr) (v : Byte) : (s.portStore p v).line = s.line := by
  unfold State.portStore; split <;> rfl
@[simp] theorem State.portStore_islot (s : State) (p : PortAddr) (v : Byte) : (s.portStore p v).islot = s.islot := by
  unfold State.portStore; split <;> rfl
@[simp] theorem State.portStore_dslot (s : State) (p : PortAddr) (v : Byte) : (s.portStore p v).dslot = s.dslot := by
  unfold State.portStore; split <;> rfl
@[simp] theorem State.portStore_store (s : State) (p : PortAddr) (v : Byte) : (s.portStore p v).store = s.store := by
  unfold State.portStore; split <;> rfl
@[simp] theorem State.portStore_iseg (s : State) (p : PortAddr) (v : Byte) : (s.portStore p v).iseg = s.iseg := by
  unfold State.portStore; split <;> rfl
@[simp] theorem State.portStore_ds (s : State) (p : PortAddr) (v : Byte) : (s.portStore p v).ds = s.ds := by
  unfold State.portStore; split <;> rfl
@[simp] theorem State.portStore_kds (s : State) (p : PortAddr) (v : Byte) : (s.portStore p v).kds = s.kds := by
  unfold State.portStore; split <;> rfl
@[simp] theorem State.portStore_pid (s : State) (p : PortAddr) (v : Byte) : (s.portStore p v).pid = s.pid := by
  unfold State.portStore; split <;> rfl
@[simp] theorem State.portStore_mode (s : State) (p : PortAddr) (v : Byte) : (s.portStore p v).mode = s.mode := by
  unfold State.portStore; split <;> rfl
@[simp] theorem State.portStore_eu (s : State) (p : PortAddr) (v : Byte) : (s.portStore p v).eu = s.eu := by
  unfold State.portStore; split <;> rfl
@[simp] theorem State.portStore_halted (s : State) (p : PortAddr) (v : Byte) : (s.portStore p v).halted = s.halted := by
  unfold State.portStore; split <;> rfl
@[simp] theorem State.portStore_fault (s : State) (p : PortAddr) (v : Byte) : (s.portStore p v).fault = s.fault := by
  unfold State.portStore; split <;> rfl
@[simp] theorem State.portStore_cfg (s : State) (p : PortAddr) (v : Byte) : (s.portStore p v).cfg = s.cfg := by
  unfold State.portStore; split <;> rfl
@[simp] theorem State.portStore_portAnswers (s : State) (p : PortAddr) (v : Byte) : (s.portStore p v).portAnswers = s.portAnswers := by
  unfold State.portStore; split <;> rfl
@[simp] theorem State.portStore_portLoads (s : State) (p : PortAddr) (v : Byte) : (s.portStore p v).portLoads = s.portLoads := by
  unfold State.portStore; split <;> rfl

/-! ### The trap -/

/-- Taking the trap: what each thing it writes becomes, the slot line by line as the entry page. -/
theorem State.enterKernel_eq (s : State) (e : EntryPoint) (n : SysNum) :
    s.enterKernel e n = { s with
      pstack := n.setWidth 8 :: s.pstack, mode := .kernel, iseg := e.seg
      islot := { seg := e.seg, page := e.page, valid := true, lines := s.store.clone e.seg e.page }
      line := e.line.toNat, eu := .fetch } := by
  unfold State.enterKernel
  rw [State.icacheCtl_of_miss (by simp [ISlot.hits])]
  rfl

/-- Leaving kernel mode. -/
theorem State.exitKernel_eq (s : State) :
    s.exitKernel = { s with mode := .application, kds := none, dslot := { s.dslot with valid := false } } := rfl

/-- `MMU 4` when the table has an entry for the accumulator. -/
theorem mmuLkp_of_some {s : State} {e : SyscallEntry} (h : syscallIn s.cfg.syscallTable s.a = some e) :
    mmuLkp s = { s with
      iseg := e.seg, islot := { seg := e.seg, page := e.page, valid := true, lines := s.store.clone e.seg e.page }
      line := 0, eu := .fetch } := by
  unfold mmuLkp
  rw [h]
  show State.goto (State.icacheCtl _ _ _) 0 = _
  rw [State.icacheCtl_of_miss (by simp [ISlot.hits])]
  rfl

/-- `MMU 4` when the table has none. -/
theorem mmuLkp_of_none {s : State} (h : syscallIn s.cfg.syscallTable s.a = none) : mmuLkp s = s.raise .unmappedSyscall := by
  unfold mmuLkp
  rw [h]

/-- `ENT` in kernel mode. -/
theorem execEnt_of_kernel {s : State} (h : s.mode = .kernel) (n : SysNum) :
    execEnt n s = .next (s.raise .nestedKernelCall) := by
  unfold execEnt
  split
  · rfl
  · next h' => rw [h] at h'; cases h'

/-- `ENT` in application mode without a configured entry. -/
theorem execEnt_of_unconfigured {s : State} (h : s.mode = .application) (hc : s.cfg.kernelEntry = none) (n : SysNum) :
    execEnt n s = .next (s.raise .kernelEntryUnconfigured) := by
  unfold execEnt
  split
  · next h' => rw [h] at h'; cases h'
  · rw [hc]

/-- `ENT` in application mode with a configured entry takes the trap. -/
theorem execEnt_of_entry {s : State} {e : EntryPoint} (h : s.mode = .application) (hc : s.cfg.kernelEntry = some e)
    (n : SysNum) : execEnt n s = .next (s.enterKernel e n) := by
  unfold execEnt
  split
  · next h' => rw [h] at h'; cases h'
  · rw [hc]

/-- `MMU` in application mode. -/
theorem execMmu_of_application {s : State} (h : s.mode = .application) (f : MmuOp) : execMmu f s = .next s.advance := by
  unfold execMmu
  split
  · rfl
  · next h' => rw [h] at h'; cases h'

/-- `MMU` in kernel mode is its sub-operation. -/
theorem execMmu_of_kernel {s : State} (h : s.mode = .kernel) (f : MmuOp) :
    execMmu f s = .next (match f with
      | .isg => mmuIsg s
      | .psg => mmuPsg s
      | .dsg => mmuDsg s
      | .ksg => mmuKsg s
      | .lkp => mmuLkp s
      | .xkm => mmuXkm s
      | .spi => mmuSpi s
      | .gpi => mmuGpi s) := by
  unfold execMmu
  split
  · next h' => rw [h] at h'; cases h'
  · cases f <;> rfl

end Sys2Proof.Machine
end

