-- ==== Sys2Proof/Laws/PerInstr.lean ====
section
/-!
SUPPORT. The family of statements made for each instruction: `EncodingForm`, its well-formedness and its length in bytes
(spec/30_encoding.md R70, R74, R82).
-/
namespace Sys2Proof.Laws.EncodingForm

/-- The instruction is well formed, and its encoding is two bytes long exactly when its opcode has a secondary byte. -/
def Statement (i : Instr) : Prop :=
  i.wf = true ∧ (encode i).length = if i.opcode.hasSecondary then 2 else 1

theorem nop : Statement .nop := ⟨Instr.wf_all _, rfl⟩

theorem cry : Statement .cry := ⟨Instr.wf_all _, rfl⟩

theorem fwd : Statement .fwd := ⟨Instr.wf_all _, rfl⟩

theorem ret : Statement .ret := ⟨Instr.wf_all _, rfl⟩

theorem jmp (b : Byte) : Statement (.jmp b) := ⟨Instr.wf_all _, rfl⟩

theorem cal (b : Byte) : Statement (.cal b) := ⟨Instr.wf_all _, rfl⟩

theorem ppi (b : Byte) : Statement (.ppi b) := ⟨Instr.wf_all _, rfl⟩

theorem cpi (b : Byte) : Statement (.cpi b) := ⟨Instr.wf_all _, rfl⟩

theorem imm (r : Reg) (b : Byte) : Statement (.imm r b) := ⟨Instr.wf_all _, rfl⟩

theorem ast (r : Reg) : Statement (.ast r) := ⟨Instr.wf_all _, rfl⟩

theorem rst (r : Reg) : Statement (.rst r) := ⟨Instr.wf_all _, rfl⟩

theorem inc (r : Reg) : Statement (.inc r) := ⟨Instr.wf_all _, rfl⟩

theorem dec (r : Reg) : Statement (.dec r) := ⟨Instr.wf_all _, rfl⟩

theorem neg (r : Reg) : Statement (.neg r) := ⟨Instr.wf_all _, rfl⟩

theorem rsh (r : Reg) : Statement (.rsh r) := ⟨Instr.wf_all _, rfl⟩

theorem add (r : Reg) : Statement (.add r) := ⟨Instr.wf_all _, rfl⟩

theorem sub (r : Reg) : Statement (.sub r) := ⟨Instr.wf_all _, rfl⟩

theorem and (r : Reg) : Statement (.and r) := ⟨Instr.wf_all _, rfl⟩

theorem ior (r : Reg) : Statement (.ior r) := ⟨Instr.wf_all _, rfl⟩

theorem xor (r : Reg) : Statement (.xor r) := ⟨Instr.wf_all _, rfl⟩

theorem pps (r : Reg) : Statement (.pps r) := ⟨Instr.wf_all _, rfl⟩

theorem ppl (r : Reg) : Statement (.ppl r) := ⟨Instr.wf_all _, rfl⟩

theorem cps (r : Reg) : Statement (.cps r) := ⟨Instr.wf_all _, rfl⟩

theorem cpl (r : Reg) : Statement (.cpl r) := ⟨Instr.wf_all _, rfl⟩

theorem poi (r : Reg) : Statement (.poi r) := ⟨Instr.wf_all _, rfl⟩

theorem brh (cc : Cond) (b : Byte) : Statement (.brh cc b) := ⟨Instr.wf_all _, rfl⟩

theorem mld (r : Reg) (b : Byte) : Statement (.mld r b) := ⟨Instr.wf_all _, rfl⟩

theorem mst (r : Reg) (b : Byte) : Statement (.mst r b) := ⟨Instr.wf_all _, rfl⟩

theorem mmu (f : MmuOp) : Statement (.mmu f) := ⟨Instr.wf_all _, rfl⟩

theorem pst (p : PortAddr) : Statement (.pst p) := ⟨Instr.wf_all _, rfl⟩

theorem pld (p : PortAddr) : Statement (.pld p) := ⟨Instr.wf_all _, rfl⟩

theorem ent (n : SysNum) : Statement (.ent n) := ⟨Instr.wf_all _, rfl⟩

end Sys2Proof.Laws.EncodingForm
end

