-- ==== Sys2Proof/Laws/Step.lean ====
section
/-!
SUPPORT. What one step can do: the inversion of `step`, once, with every guard.
-/
namespace Sys2Proof.Machine

/-- The memory of the machine right after reset is in canonical form. -/
theorem State.reset_store_wf : State.reset.store.wf = true := by decide

/-- The ways a step ends in a next state: frozen; a clean halt; or a byte fetched, and then an undecodable first byte, a
first byte held, a one-byte instruction run, or a held instruction run with the byte as its argument. -/
theorem step_cases {s t : State} (h : step s = .next t) :
    (s.frozen = true ∧ t = s) ∨
    (s.frozen = false ∧ s.fetchByte = none ∧ t = s.halt) ∨
    ∃ b, s.frozen = false ∧ s.fetchByte = some b ∧
      ((s.eu = .fetch ∧ decodeByte b = none ∧ t = s.raise .undecodableInstruction) ∨
       (∃ op k, s.eu = .fetch ∧ decodeByte b = some (op, k) ∧ op.hasSecondary = true ∧ t = s.holdFirst op k) ∨
       (∃ op k, s.eu = .fetch ∧ decodeByte b = some (op, k) ∧ op.hasSecondary = false ∧
         exec (op.instr k 0#8) s = .next t) ∨
       ∃ op k, s.eu = .await op k ∧ exec (op.instr k b) s = .next t) := by
  unfold step tick at h
  cases hf : s.frozen
  · rw [hf, if_neg (by decide)] at h
    cases hb : s.fetchByte with
    | none =>
      rw [hb] at h
      exact .inr (.inl ⟨rfl, rfl, (Host.Outcome.next.inj h).symm⟩)
    | some b =>
      rw [hb] at h
      refine .inr (.inr ⟨b, rfl, rfl, ?_⟩)
      cases he : s.eu with
      | fetch =>
        rw [he] at h
        cases hd : decodeByte b with
        | none =>
          simp only [tickFetch, hd] at h
          exact .inl ⟨rfl, rfl, (Host.Outcome.next.inj h).symm⟩
        | some opk =>
          obtain ⟨op, k⟩ := opk
          simp only [tickFetch, hd] at h
          cases hs : op.hasSecondary
          · rw [hs, if_neg (by decide)] at h
            exact .inr (.inr (.inl ⟨op, k, rfl, rfl, hs, h⟩))
          · rw [hs, if_pos rfl] at h
            exact .inr (.inl ⟨op, k, rfl, rfl, hs, (Host.Outcome.next.inj h).symm⟩)
      | await op k =>
        rw [he] at h
        exact .inr (.inr (.inr ⟨op, k, rfl, h⟩))
  · rw [hf, if_pos rfl] at h
    exact .inl ⟨rfl, (Host.Outcome.next.inj h).symm⟩

end Sys2Proof.Machine
end

