-- ==== Sys2Proof/Tests/Slice0.lean ====
section
/-!
SUPPORT. Small tests. Expected results come from the spec: words from the map of spec/30_encoding.md R76 and the vectors of
spec/95_test_vectors.md (the id or table row is named in each comment). Then, for every statement that has hypotheses, a
named witness that meets them.
-/
namespace Sys2Proof.Tests
open Sys2Proof.Machine

/-! ### Helpers -/

/-- Bytes at consecutive addresses. -/
def number (base : Nat) : List Byte → Memory
  | [] => []
  | b :: rest => (base, b) :: number (base + 1) rest

/-- A running machine with the bytes in its instruction slot from line 0, everything else as reset leaves it, but for the
start flags `1110` of 95_test_vectors.md section 0. -/
def start (bytes : List Byte) : State :=
  { State.reset with
    fault := none
    flags := ⟨true, true, true, false⟩
    islot := { seg := 0, page := 0, valid := true, lines := number 0 bytes } }

/-- A running machine that holds the first byte of a two-byte instruction and is about to fetch `b` at line 1. -/
def waiting (op : Opcode) (k : Operand) (b : Byte) : State :=
  { start [op.pattern ||| k.setWidth 8, b] with eu := .await op k, line := 1 }

/-- The next state of an outcome, if it is one. -/
def nextOf : Host.Outcome State Fault Refusal → Option State
  | .next t => some t
  | .fault _ => none
  | .refused _ => none

/-- Something of the state one step leaves. -/
def after {α : Type} (s : State) (see : State → α) : Option α := (nextOf (step s)).map see

/-- A store with one page. -/
def onePage (seg : Segment) (page : PageNum) (lines : Memory) : Store := Store.empty.put seg page lines

/-- A running machine with one byte, at line 31, about to fetch it. -/
def atLast (b : Byte) : State :=
  { start [] with line := 31, islot := { seg := 0, page := 0, valid := true, lines := [(31, b)] } }

/-- A running machine that holds `CAL` and is about to fetch its secondary byte `b` at line 31 of a page. -/
def calAtLast (page : PageNum) (b : Byte) : State :=
  { start [] with
    eu := .await .cal 0, line := 31, islot := { seg := 0, page := page, valid := true, lines := [(30, 0x05), (31, b)] } }

/-- Parameters with a kernel entry (1, 0, 3), syscall 2 at (1, 1), and a device at ports 0 and 15. -/
def params : Params :=
  { kernelEntry := some ⟨1, 0, 3⟩
    syscallTable := [⟨2, 1, 1⟩]
    portMap := [⟨0, .integerIO⟩, ⟨15, .terminal⟩] }

/-! ### Decoding: words written out from R76 -/

/-- 0000 0000 -/
theorem test_decode_nop : decode [0x00] = .ok (.nop) [] := by decide

/-- 0000 0001 -/
theorem test_decode_cry : decode [0x01] = .ok (.cry) [] := by decide

/-- 0000 0010 -/
theorem test_decode_fwd : decode [0x02] = .ok (.fwd) [] := by decide

/-- 0000 0011 -/
theorem test_decode_ret : decode [0x03] = .ok (.ret) [] := by decide

/-- 0000 0100, then the byte (S9) -/
theorem test_decode_jmp : decode [0x04, 0x20] = .ok (.jmp 0x20) [] := by decide

/-- 0000 0101 -/
theorem test_decode_cal : decode [0x05, 0x20] = .ok (.cal 0x20) [] := by decide

/-- 0000 0110 (S6) -/
theorem test_decode_ppi : decode [0x06, 0x01] = .ok (.ppi 0x01) [] := by decide

/-- 0000 0111 (ST8) -/
theorem test_decode_cpi : decode [0x07, 0xFF] = .ok (.cpi 0xFF) [] := by decide

/-- 00010 011 -/
theorem test_decode_imm : decode [0x13, 0xFF] = .ok (.imm .r3 0xFF) [] := by decide

/-- 00011 011 -/
theorem test_decode_ast : decode [0x1B] = .ok (.ast .r3) [] := by decide

/-- 00100 110 (P4) -/
theorem test_decode_rst : decode [0x26] = .ok (.rst .r6) [] := by decide

/-- 00101 010 -/
theorem test_decode_inc : decode [0x2A] = .ok (.inc .r2) [] := by decide

/-- 00110 111 -/
theorem test_decode_dec : decode [0x37] = .ok (.dec .r7) [] := by decide

/-- 00111 100 -/
theorem test_decode_neg : decode [0x3C] = .ok (.neg .r4) [] := by decide

/-- 01000 101 -/
theorem test_decode_rsh : decode [0x45] = .ok (.rsh .r5) [] := by decide

/-- 01001 010 (E9) -/
theorem test_decode_add : decode [0x4A] = .ok (.add .r2) [] := by decide

/-- 01010 001 -/
theorem test_decode_sub : decode [0x51] = .ok (.sub .r1) [] := by decide

/-- 01011 000 -/
theorem test_decode_and : decode [0x58] = .ok (.and .acc) [] := by decide

/-- 01100 001 -/
theorem test_decode_ior : decode [0x61] = .ok (.ior .r1) [] := by decide

/-- 01101 011 -/
theorem test_decode_xor : decode [0x6B] = .ok (.xor .r3) [] := by decide

/-- 01110 010 (ST5) -/
theorem test_decode_pps : decode [0x72] = .ok (.pps .r2) [] := by decide

/-- 01111 001 (ST2) -/
theorem test_decode_ppl : decode [0x79] = .ok (.ppl .r1) [] := by decide

/-- 10000 000 (ST4) -/
theorem test_decode_cps : decode [0x80] = .ok (.cps .acc) [] := by decide

/-- 10001 001 (ST6) -/
theorem test_decode_cpl : decode [0x89] = .ok (.cpl .r1) [] := by decide

/-- 10010 110 (P4) -/
theorem test_decode_poi : decode [0x96] = .ok (.poi .r6) [] := by decide

/-- 10011 110 (E10) -/
theorem test_decode_brh : decode [0x9E, 0x04] = .ok (.brh .nz 0x04) [] := by decide

/-- 10100 011 (P2) -/
theorem test_decode_mld : decode [0xA3, 0x45] = .ok (.mld .r3 0x45) [] := by decide

/-- 10101 111 (E11) -/
theorem test_decode_mst : decode [0xAF, 0x60] = .ok (.mst .r7 0x60) [] := by decide

/-- 10110 101 (P3) -/
theorem test_decode_mmu : decode [0xB5] = .ok (.mmu .xkm) [] := by decide

/-- 1100 0011 -/
theorem test_decode_pst : decode [0xC3] = .ok (.pst 3) [] := by decide

/-- 1101 1111 (E17) -/
theorem test_decode_pld : decode [0xDF] = .ok (.pld 15) [] := by decide

/-- 111 00010 (P3) -/
theorem test_decode_ent : decode [0xE2] = .ok (.ent 2) [] := by decide

/-- E4, E5, E13, E14: the edges of the reserved bytes are `Data`. -/
theorem test_decode_reserved :
    decode [0x08] = .data 0x08 ∧ decode [0x0F] = .data 0x0F ∧ decode [0xB8] = .data 0xB8 ∧ decode [0xBF] = .data 0xBF := by
  decide

/-- E12, E15, E16, E18, E19: the edges of the last groups. -/
theorem test_decode_edges :
    decode [0xB7] = .ok (.mmu .gpi) [] ∧ decode [0xC0] = .ok (.pst 0) [] ∧ decode [0xCF] = .ok (.pst 15) [] ∧
    decode [0xE0] = .ok (.ent 0) [] ∧ decode [0xFF] = .ok (.ent 31) [] := by decide

/-- A two-byte instruction without its secondary byte, and no byte at all. -/
theorem test_decode_short : decode [0x10] = .noSecondByte .imm ∧ decode [] = .noFirstByte := by decide

/-- The bytes after the instruction are left. -/
theorem test_decode_rest : decode [0x10, 0x05, 0xC0] = .ok (.imm .acc 0x05) [0xC0] := by decide

/-- The second byte of a table word is bits 15 to 8, and reads 0 where the table gives the row one byte. -/
theorem test_decode_table_word :
    decodeTableWord 8 0x9E = some (.brh .nz 0) ∧ decodeTableWord 16 0x049E = some (.brh .nz 4) ∧
    decodeTableWord 8 0x08 = none := by decide

/-! ### Well-formedness: an ill-formed term for each check, refused -/

/-- 95_test_vectors.md section 2.1: the encodes that succeed. -/
theorem test_encode :
    encodeByte .brh 6 = some 0x9E ∧ encodeByte .pst 15 = some 0xCF ∧ encodeByte .ent 31 = some 0xFF ∧
    encodeByte .nop 0 = some 0x00 := by decide

/-- Section 2.1: the encodes that fail, one for each width. -/
theorem test_operand_unfit_refused :
    Opcode.ent.fits 32 = false ∧ Opcode.pst.fits 16 = false ∧ Opcode.add.fits 8 = false ∧ Opcode.nop.fits 1 = false ∧
    encodeByte .ent 32 = none ∧ encodeByte .pst 16 = none ∧ encodeByte .add 8 = none ∧ encodeByte .nop 1 = none := by decide

/-- A configuration at every upper bound of R3 and R185. -/
def good : RawConfig :=
  { kernelEntry := some (255, 7, 31)
    syscallTable := [(255, 255, 7)]
    ports := [⟨0, 15, .integerIO⟩, ⟨15, 1, .terminal⟩]
    pages := [⟨255, 7, [(31, 255)]⟩, ⟨0, 0, [(0, 0)]⟩]
    resetMode := .application }

theorem test_config_good : good.wf = true := by decide

theorem test_config_entry_refused :
    { good with kernelEntry := some (256, 7, 31) }.wf = false ∧ { good with kernelEntry := some (255, 8, 31) }.wf = false ∧
    { good with kernelEntry := some (255, 7, 32) }.wf = false ∧ { good with kernelEntry := some (-1, 0, 0) }.wf = false := by
  decide

theorem test_config_syscall_refused :
    { good with syscallTable := [(256, 0, 0)] }.wf = false ∧ { good with syscallTable := [(0, 256, 0)] }.wf = false ∧
    { good with syscallTable := [(0, 0, 8)] }.wf = false ∧ { good with syscallTable := [(1, 0, 0), (1, 2, 3)] }.wf = false := by
  decide

theorem test_config_page_refused :
    { good with pages := [⟨256, 0, []⟩] }.wf = false ∧ { good with pages := [⟨0, 8, []⟩] }.wf = false ∧
    { good with pages := [⟨0, 0, [(32, 0)]⟩] }.wf = false ∧ { good with pages := [⟨0, 0, [(0, 256)]⟩] }.wf = false ∧
    { good with pages := [⟨0, 0, [(0, -1)]⟩] }.wf = false ∧
    { good with pages := [⟨0, 0, [(0, 1), (0, 2)]⟩] }.wf = false ∧
    { good with pages := [⟨0, 0, []⟩, ⟨0, 0, []⟩] }.wf = false := by decide

theorem test_config_ports_refused :
    { good with ports := [⟨-1, 1, .timer⟩] }.wf = false ∧ { good with ports := [⟨15, 2, .timer⟩] }.wf = false ∧
    { good with ports := [⟨0, 4, .timer⟩, ⟨3, 1, .modulo⟩] }.wf = false := by decide

/-- Log 15: a device with no address is accepted at any port number, also inside another's range, and at no other number. -/
theorem test_config_empty_device :
    { good with ports := [⟨0, 4, .timer⟩, ⟨2, 0, .modulo⟩, ⟨15, 0, .divide⟩] }.wf = true ∧
    { good with ports := [⟨16, 0, .timer⟩] }.wf = false ∧ { good with ports := [⟨-1, 0, .timer⟩] }.wf = false := by decide

/-! ### One step of each instruction -/

/-- 2.3 `NOP`: only `LINE + 1`; flags unchanged. -/
theorem test_nop :
    after { start [0x00] with a := 7 }
      (fun t => (t.a, t.flags, t.line)) = some (7, ⟨true, true, true, false⟩, 1) := by decide

/-- T1: at line 31 it goes on to 32. -/
theorem test_nop_last_line :
    after (atLast 0x00) (fun t => t.line) = some 32 := by decide

/-- 2.3 `IMM 0, 0x80` with `A=02`: `N` is not bit 7. -/
theorem test_imm_acc :
    after { waiting .imm 0 0x80 with a := 0x02 }
      (fun t => (t.a, t.flags, t.line, t.eu)) = some (0x80, ⟨false, false, false, false⟩, 2, .fetch) := by decide

/-- 2.3 `IMM 3, 0xFF` with `A=07`: flags unchanged. -/
theorem test_imm_reg :
    after { waiting .imm 3 0xFF with a := 0x07 }
      (fun t => (t.a, t.r3, t.flags)) = some (0x07, 0xFF, ⟨true, true, true, false⟩) := by decide

/-- 2.3 `AST 3` with `A=03, R3=00`. -/
theorem test_ast :
    after { start [0x1B] with a := 0x03, r3 := 0x00 }
      (fun t => (t.a, t.flags, t.line)) = some (0x00, ⟨false, false, true, true⟩, 1) := by decide

/-- 2.3 `AST 0` with `A=07`: flags recomputed. -/
theorem test_ast_self :
    after { start [0x18] with a := 0x07 }
      (fun t => (t.a, t.flags, t.line)) = some (0x07, ⟨false, false, false, true⟩, 1) := by decide

/-- 2.3 `RST 1` with `A=07`. -/
theorem test_rst :
    after { start [0x21] with a := 0x07 }
      (fun t => (t.r1, t.flags, t.line)) = some (0x07, ⟨true, true, true, false⟩, 1) := by decide

/-- 2.3 `RST 0` with `A=07`: an accumulator write. -/
theorem test_rst_acc :
    after { start [0x20] with a := 0x07 }
      (fun t => (t.a, t.flags, t.line)) = some (0x07, ⟨false, false, false, true⟩, 1) := by decide

/-- 2.3 `ADD 1` with `A=FF, R1=FF, CMOD=1`: `V = 511`. -/
theorem test_add_wraps :
    after { start [0x49] with a := 0xFF, r1 := 0xFF, cmod := true }
      (fun t => (t.a, t.cmod, t.flags, t.line)) = some (0xFF, false, ⟨true, false, false, true⟩, 1) := by decide

/-- 2.3 `ADD 1` with `A=FF, R1=01`: `V = 256`, so `Z = 0`. -/
theorem test_add_zero_flag :
    after { start [0x49] with a := 0xFF, r1 := 0x01 }
      (fun t => (t.a, t.flags, t.line)) = some (0x00, ⟨true, false, false, true⟩, 1) := by decide

/-- 2.3 `SUB 1` with `A=05, R1=01, CMOD=1`. -/
theorem test_sub_keeps_cmod :
    after { start [0x51] with a := 0x05, r1 := 0x01, cmod := true }
      (fun t => (t.a, t.cmod, t.flags)) = some (0x04, true, ⟨false, false, false, true⟩) := by decide

/-- 2.3 `SUB 1` with `A=05, R1=07`: `V = -2`. -/
theorem test_sub_borrow :
    after { start [0x51] with a := 0x05, r1 := 0x07 }
      (fun t => (t.a, t.flags, t.line)) = some (0xFE, ⟨false, true, false, true⟩, 1) := by decide

/-- 2.3 `AND 1` with `A=F0, R1=3C`. -/
theorem test_and :
    after { start [0x59] with a := 0xF0, r1 := 0x3C }
      (fun t => (t.a, t.flags, t.line)) = some (0x30, ⟨false, false, false, false⟩, 1) := by decide

/-- 2.3 `AND 0` with `A=81`. -/
theorem test_and_self :
    after { start [0x58] with a := 0x81 }
      (fun t => (t.a, t.flags, t.line)) = some (0x81, ⟨false, false, false, true⟩, 1) := by decide

/-- 2.3 `IOR 1` with `A=81, R1=18`. -/
theorem test_ior :
    after { start [0x61] with a := 0x81, r1 := 0x18 }
      (fun t => (t.a, t.flags, t.line)) = some (0x99, ⟨false, false, false, true⟩, 1) := by decide

/-- 2.3 `XOR 1` with `A=FF, R1=0F`. -/
theorem test_xor :
    after { start [0x69] with a := 0xFF, r1 := 0x0F }
      (fun t => (t.a, t.flags, t.line)) = some (0xF0, ⟨false, false, false, true⟩, 1) := by decide

/-- 2.3 `XOR 0` with `A=5A`. -/
theorem test_xor_self :
    after { start [0x68] with a := 0x5A }
      (fun t => (t.a, t.flags, t.line)) = some (0x00, ⟨false, false, true, false⟩, 1) := by decide

/-- 2.3 `INC 0` with `A=FF`: `V = 256`. -/
theorem test_inc_acc :
    after { start [0x28] with a := 0xFF }
      (fun t => (t.a, t.flags, t.line)) = some (0x00, ⟨true, false, false, true⟩, 1) := by decide

/-- 2.3 `INC 2` with `R2=FF`: flags unchanged. -/
theorem test_inc_reg :
    after { start [0x2A] with r2 := 0xFF }
      (fun t => (t.r2, t.flags, t.line)) = some (0x00, ⟨true, true, true, false⟩, 1) := by decide

/-- 2.3 `DEC 0` with `A=00`: `V = -1`. -/
theorem test_dec_acc :
    after { start [0x30] with a := 0x00 }
      (fun t => (t.a, t.flags, t.line)) = some (0xFF, ⟨false, true, false, false⟩, 1) := by decide

/-- 2.3 `DEC 2` with `R2=00`. -/
theorem test_dec_reg :
    after { start [0x32] with r2 := 0x00 }
      (fun t => (t.r2, t.flags, t.line)) = some (0xFF, ⟨true, true, true, false⟩, 1) := by decide

/-- 2.3 `NEG 0` with `A=80`: `V = -128`. -/
theorem test_neg_acc :
    after { start [0x38] with a := 0x80 }
      (fun t => (t.a, t.flags, t.line)) = some (0x80, ⟨false, true, false, false⟩, 1) := by decide

/-- 2.3 `NEG 4` with `R4=01`. -/
theorem test_neg_reg :
    after { start [0x3C] with r4 := 0x01 }
      (fun t => (t.r4, t.flags, t.line)) = some (0xFF, ⟨true, true, true, false⟩, 1) := by decide

/-- 2.3 `RSH 0` with `A=0B`. -/
theorem test_rsh_acc :
    after { start [0x40] with a := 0x0B }
      (fun t => (t.a, t.flags, t.line)) = some (0x05, ⟨false, false, false, true⟩, 1) := by decide

/-- 2.3 `RSH 5` with `R5=FF`. -/
theorem test_rsh_reg :
    after { start [0x45] with r5 := 0xFF }
      (fun t => (t.r5, t.flags, t.line)) = some (0x7F, ⟨true, true, true, false⟩, 1) := by decide

/-- 2.3 `CRY`. -/
theorem test_cry :
    after (start [0x01]) (fun t => (t.cmod, t.flags, t.line)) = some (true, ⟨true, true, true, false⟩, 1) := by decide

/-- ST5: `PPS 2` with `R2=7F`, `PSTACK=[1]` (the top is listed first here). -/
theorem test_pps :
    after { start [0x72] with r2 := 0x7F, pstack := [1] }
      (fun t => (t.pstack, t.cstack)) = some ([0x7F, 1], []) := by decide

/-- ST2: `PPL 1` from an empty stack with `R1=09`. -/
theorem test_ppl_empty :
    after { start [0x79] with a := 0x03, r1 := 0x09 }
      (fun t => (t.r1, t.a, t.pstack, t.flags)) = some (0x00, 0x03, [], ⟨true, true, true, false⟩) := by decide

/-- ST3: `PPL 0` from an empty stack with `A=03`. -/
theorem test_ppl_empty_acc :
    after { start [0x78] with a := 0x03 }
      (fun t => (t.a, t.pstack, t.flags)) = some (0x00, [], ⟨false, false, true, true⟩) := by decide

/-- S6: `PPI 3` on `[1, 2]` (the top is listed first here). -/
theorem test_ppi :
    after { waiting .ppi 0 0x03 with pstack := [2, 1] }
      (fun t => (t.pstack, t.line)) = some ([3, 2, 1], 2) := by decide

/-- ST4: `CPS 0` with `A=25`. -/
theorem test_cps :
    after { start [0x80] with a := 0x25 }
      (fun t => (t.cstack, t.pstack, t.flags)) = some ([0x25], [], ⟨true, true, true, false⟩) := by decide

/-- ST6: `CPL 1` with `CSTACK=[5, 1]` (top 1). -/
theorem test_cpl :
    after { start [0x89] with cstack := [1, 5] }
      (fun t => (t.r1, t.cstack, t.flags)) = some (0x01, [5], ⟨true, true, true, false⟩) := by decide

/-- ST7: `CPL 0` from an empty call stack; `PSTACK=[9]` untouched. -/
theorem test_cpl_empty :
    after { start [0x88] with pstack := [9] } (fun t => (t.a, t.pstack, t.cstack)) = some (0x00, [9], []) := by decide

/-- ST8: `CPI 0xFF`. -/
theorem test_cpi :
    after (waiting .cpi 0 0xFF) (fun t => (t.cstack, t.line)) = some ([0xFF], 2) := by decide

/-- K2 tick 3: `POI 1` with `R1=03`. -/
theorem test_poi :
    after { start [0x91] with r1 := 0x03 }
      (fun t => (t.ptr, t.line, t.flags)) = some (0x03, 1, ⟨true, true, true, false⟩) := by decide

/-- K3: `FWD` with `C=1`. -/
theorem test_fwd_set :
    after (start [0x02]) (fun t => (t.fwdb, t.line)) = some (true, 1) := by decide

/-- K4: `FWD` with `C=0` clears. -/
theorem test_fwd_clear :
    after { start [0x02] with flags := ⟨false, true, true, true⟩, fwdb := true }
      (fun t => (t.fwdb, t.line)) = some (false, 1) := by decide

/-- K12 tick 5: `JMP 0x43` with `PTR=0x41` is OR, not add: page 2, line 3. -/
theorem test_jmp_pointer :
    after { waiting .jmp 0 0x43 with ptr := 0x41 }
      (fun t => (t.islot.page, t.line, t.ptr, t.eu)) = some (2, 3, 0, .fetch) := by decide

/-- K3 tick 6: `JMP 0x40` with `FWDB=1`: page 2, line 1. -/
theorem test_jmp_forward :
    after { waiting .jmp 0 0x40 with fwdb := true }
      (fun t => (t.islot.page, t.line, t.fwdb)) = some (2, 1, false) := by decide

/-- K7 tick 4: `CAL 0x00` with its secondary byte at page 2 line 31. -/
theorem test_cal :
    after (calAtLast 2 0x00) (fun t => (t.cstack, t.islot.page, t.line)) = some ([0x60], 0, 0) := by decide

/-- K8 tick 4: at page 7 line 31 the return address wraps to 0. -/
theorem test_cal_wraps :
    after (calAtLast 7 0x20) (fun t => (t.cstack, t.islot.page, t.line)) = some ([0x00], 1, 0) := by decide

/-- K13, c = 5 with `N=0`: taken, page 1 line 0. -/
theorem test_brh_taken :
    after { waiting .brh 5 0x20 with flags := ⟨true, false, false, true⟩ }
      (fun t => (t.islot.page, t.line, t.flags)) = some (1, 0, ⟨true, false, false, true⟩) := by decide

/-- K5 tick 7: `BRH 6` with `Z=1`: not taken, and `PTR` is consumed. -/
theorem test_brh_not_taken :
    after { waiting .brh 6 0x04 with ptr := 0x20 }
      (fun t => (t.islot.page, t.line, t.ptr)) = some (0, 2, 0) := by decide

/-- K10 tick 4: `RET` pops 0x25: page 1, line 5. -/
theorem test_ret :
    after { start [0x03] with cstack := [0x25] }
      (fun t => (t.islot.page, t.line, t.cstack)) = some (1, 5, []) := by decide

/-- K9: `RET` on an empty stack: page 0, line 0; `PTR` is not consumed (R157). -/
theorem test_ret_empty :
    after { start [0x03] with ptr := 0x40 }
      (fun t => (t.islot.page, t.line, t.cstack, t.ptr)) = some (0, 0, [], 0x40) := by decide

/-- M1: `MLD 1, 0x45` of an unmapped page with `R1=99`. -/
theorem test_mld_unmapped :
    after { waiting .mld 1 0x45 with r1 := 0x99 }
      (fun t => (t.r1, t.dslot, t.store, t.flags)) =
    some (0x00, ⟨0, 2, true, false, []⟩, Store.empty, ⟨true, true, true, false⟩) := by decide

/-- M8 tick 3: `MLD 0, 0x40` with `PTR=04` reads line 4 of page 2. -/
theorem test_mld_pointer :
    after { waiting .mld 0 0x40 with ptr := 0x04, store := onePage 0 2 [(0, 0x00), (4, 0x10)] }
      (fun t => (t.a, t.ptr, t.dslot.dirty, t.flags)) =
    some (0x10, 0, false, ⟨false, false, false, false⟩) := by decide

/-- P2 tick 4: `MST 0, 0x45` with `A=2A`: the slot is dirty, `STORE` unchanged. -/
theorem test_mst :
    after { waiting .mst 0 0x45 with a := 0x2A }
      (fun t => (t.dslot, t.store, t.events)) = some (⟨0, 2, true, true, [(5, 0x2A)]⟩, Store.empty, []) := by decide

/-- P2 tick 12: `MST 0, 0x60` with page (0,2) dirty: written back, then (0,3) dirty. -/
theorem test_mst_evicts :
    after { waiting .mst 0 0x60 with a := 0x00, dslot := ⟨0, 2, true, true, [(5, 0x2A)]⟩ }
      (fun t => (t.dslot, t.store, t.events)) =
    some (⟨0, 3, true, true, [(0, 0x00)]⟩, ⟨[(69, 0x2A)], [2]⟩, [.writeBack 0 2]) := by decide

/-- S8 tick 3: `PST 0` with `A=05` and a device. -/
theorem test_pst :
    after { start [0xC0] with a := 0x05, cfg := params }
      (fun t => (t.events, t.line)) = some ([.portStore 0 0x05], 1) := by decide

/-- 2.8 tick 3: `PST 3` where no device is. -/
theorem test_pst_nowhere :
    after { start [0xC3] with a := 0x05, cfg := params } (fun t => (t.events, t.line)) = some ([], 1) := by decide

/-- 2.8 tick 5: a load the device answers with 0, `A=05`. -/
theorem test_pld :
    after { start [0xD0] with a := 0x05, cfg := params, portAnswers := [0x00] }
      (fun t => (t.a, t.events, t.flags)) = some (0x00, [.portLoad 0 0x00], ⟨false, false, true, true⟩) := by decide

/-- 2.8 tick 4: `PLD 3` where no device is: `A` and the flags stay. -/
theorem test_pld_nowhere :
    after { start [0xD3] with a := 0x05, cfg := params }
      (fun t => (t.a, t.events, t.flags, t.line)) = some (0x05, [], ⟨true, true, true, false⟩, 1) := by decide

/-- G8: `ENT 31` takes the trap. -/
theorem test_ent :
    after { start [0xFF] with mode := .application, cfg := params }
      (fun t => (t.pstack, t.mode, t.iseg, t.islot, t.line)) =
    some ([31], .kernel, 1, ⟨1, 0, true, []⟩, 3) := by decide

/-- G2: `ENT 2` in kernel mode is fatal and pushes nothing. -/
theorem test_ent_nested :
    after { start [0xE2] with cfg := params }
      (fun t => (t.pstack, t.line, t.mode, t.fault)) = some ([], 0, .kernel, some .nestedKernelCall) := by decide

/-- G7 tick 3 (`MMU 0`, `A=1`), G7 tick 4 (`MMU 1`, `ISEG=1`), M4 tick 7 (`MMU 2` leaves the slot dirty at its own address)
and G10 tick 1 (`MMU 3`, `A=01`, `DS=2`). -/
theorem test_mmu_segments :
    after { start [0xB0] with a := 1 } (fun t => (t.iseg, t.islot.seg, t.islot.valid, t.line)) = some (1, 0, false, 1) ∧
    after { start [0xB1] with iseg := 1 } (fun t => (t.cstack, t.line)) = some ([1], 1) ∧
    after { start [0xB2] with a := 3, dslot := ⟨0, 2, true, true, [(5, 0x2A)]⟩ } (fun t => (t.ds, t.dslot, t.store)) =
      some (some 3, ⟨0, 2, false, true, [(5, 0x2A)]⟩, Store.empty) ∧
    after { start [0xB3] with a := 1, ds := some 2 } (fun t => (t.kds, t.ds, t.dseg)) = some (some 1, some 2, 1) := by
  decide

/-- P3 tick 6 (`MMU 4`, `A=2`), G4 (a number the table lacks), G10 tick 2 (`MMU 5`), G6 ticks 3 and 6 (`MMU 6`, `MMU 7`), and
G1 (`MMU 4` in application mode with an empty table is a no-op). -/
theorem test_mmu_kernel :
    after { start [0x78, 0xB4] with a := 2, line := 1, cfg := params } (fun t => (t.iseg, t.islot.seg, t.islot.page, t.line)) =
      some (1, 1, 1, 0) ∧
    after { start [0xB4] with a := 9, cfg := params } (fun t => (t.fault, t.line, t.iseg)) =
      some (some .unmappedSyscall, 0, 0) ∧
    after { start [0xB5] with kds := some 1, ds := some 2 } (fun t => (t.mode, t.kds, t.ds, t.line)) =
      some (.application, none, some 2, 1) ∧
    after { start [0xB6] with a := 7 } (fun t => (t.pid, t.flags)) = some (7, ⟨true, true, true, false⟩) ∧
    after { start [0xB7] with pid := 7 } (fun t => (t.a, t.flags)) = some (7, ⟨false, false, false, false⟩) ∧
    after { start [0xB4] with mode := .application } (fun t => (t.iseg, t.fault, t.line)) = some (0, none, 1) := by decide

/-! ### The cycle and reset -/

/-- T2 tick 1: at line 31 a two-byte opcode is held, `LINE = 32`. -/
theorem test_first_byte_held :
    after (atLast 0x10) (fun t => (t.eu, t.line, t.a)) = some (.await .imm 0, 32, 0) := by decide

/-- T3 tick 2: an absent secondary byte is a clean halt. -/
theorem test_halt_in_await :
    after { start [0x10] with line := 1, eu := .await .imm 0 }
      (fun t => (t.halted, t.fault, t.eu, t.line)) = some (true, none, .await .imm 0, 1) := by decide

/-- T4: 0x08 is legal as a secondary byte. -/
theorem test_reserved_secondary :
    after (waiting .imm 0 0x08) (fun t => (t.a, t.fault, t.line)) = some (0x08, none, 2) := by decide

/-- T5. -/
theorem test_undecodable :
    after (start [0x08])
      (fun t => (t.fault, t.line, t.eu)) = some (some .undecodableInstruction, 0, .fetch) := by decide

/-- Z1: no page (0,0). -/
theorem test_reset_empty : State.reset.fault = some .noProgramEntry ∧ nextOf (step State.reset) = some State.reset := by decide

/-- The codes of R211, as T5, G4, G2, G3 and Z1 give them. -/
theorem test_fatal_codes :
    after (start [0x08]) State.faultCode = some (some 1) ∧
    after { start [0xB4] with a := 9, cfg := params } State.faultCode = some (some 2) ∧
    after { start [0xE2] with cfg := params } State.faultCode = some (some 3) ∧
    after { start [0xE2] with mode := .application } State.faultCode = some (some 4) ∧
    State.reset.faultCode = some 5 ∧ (start []).faultCode = none := by decide

/-- Z3: a page (0,0) with `NOP` at line 0. -/
theorem test_reset_program :
    (State.resetWith { RunConfig.default with store0 := onePage 0 0 [(0, 0x00)] }).fault = none ∧
    after (State.resetWith { RunConfig.default with store0 := onePage 0 0 [(0, 0x00)] }) (fun t => t.line) = some 1 := by
  decide

/-- The step after `withFetchWord` runs the instruction: one byte, and two bytes with the second byte 0. -/
theorem test_with_fetch_word :
    after (State.reset.withFetchWord 8 0x01) (fun t => t.cmod) = some true ∧
    after (State.reset.withFetchWord 8 0x06) (fun t => t.pstack) = some [0x00] ∧
    after (State.reset.withFetchWord 16 0x2A06) (fun t => t.pstack) = some [0x2A] := by decide

/-! ### Witnesses -/

/-- The hypotheses of `OneTick` and of the first half of `TwoTicks` for a first byte, on a concrete machine. -/
def Starts (first : Byte) : Prop :=
  (start [first]).running ∧ (start [first]).eu = .fetch ∧ (start [first]).fetchByte = some first

/-- The hypotheses of the second half of `TwoTicks`. -/
def Awaits (op : Opcode) (k : Operand) (b : Byte) : Prop :=
  (waiting op k b).running ∧ (waiting op k b).eu = .await op k ∧ (waiting op k b).fetchByte = some b

theorem starts (first : Byte) : Starts first := ⟨⟨rfl, rfl⟩, rfl, rfl⟩

theorem awaits (op : Opcode) (k : Operand) (b : Byte) : Awaits op k b := ⟨⟨rfl, rfl⟩, rfl, rfl⟩

/-- A machine about to store, its data slot dirty with the page (0, 2). -/
def dirty : State := { waiting .mst 0 0x60 with a := 0x2A, dslot := ⟨0, 2, true, true, [(5, 0x2A)]⟩, kds := some 0 }

/-- A machine in application mode with all parameters set. -/
def app (bytes : List Byte) : State := { start bytes with mode := .application, cfg := params }

theorem dirty_inv : dirty.Inv where
  store_wf := by decide
  islot_wf := by decide
  dslot_wf := by decide
  line_le := by decide
  fetch_segment := by decide
  kernel_override := by decide
  clean_clone := by decide
  dirty_lines := by decide
  held := by
    intro op k h
    cases h
    decide

theorem witness_ResetLeavesSpecValues :
    (onePage 0 0 [(5, 0x00)]).isMapped 0 0 = true ∧
    RunConfig.default.store0.isMapped 0 0 = false := by decide

theorem witness_FirstTickAfterReset :
    RunConfig.default.store0.isMapped 0 0 = false ∧
    (onePage 0 0 [(5, 0x00)]).isMapped 0 0 = true ∧
    (onePage 0 0 [(5, 0x00)]).get 0 0 0 = none := by decide

theorem witness_ConfigurationOutOfRangeRefused :
    (∃ s g l, { good with kernelEntry := some (256, 7, 31) }.kernelEntry = some (s, g, l) ∧
      ¬((0 ≤ s ∧ s ≤ 255) ∧ (0 ≤ g ∧ g ≤ 7) ∧ (0 ≤ l ∧ l ≤ 31))) ∧
    (∃ e ∈ { good with syscallTable := [(0, 0, 8)] }.syscallTable, ¬((0 ≤ e.2.1 ∧ e.2.1 ≤ 255) ∧ (0 ≤ e.2.2 ∧ e.2.2 ≤ 7))) ∧
    (∃ pg ∈ { good with pages := [⟨-1, 0, []⟩] }.pages, ¬((0 ≤ pg.seg ∧ pg.seg ≤ 255) ∧ (0 ≤ pg.page ∧ pg.page ≤ 7))) ∧
    (∃ pg ∈ { good with pages := [⟨0, 0, [(32, 0)]⟩] }.pages,
      ∃ l ∈ pg.lines, ¬((0 ≤ l.1 ∧ l.1 ≤ 31) ∧ (0 ≤ l.2 ∧ l.2 ≤ 255))) :=
  ⟨⟨256, 7, 31, rfl, by decide⟩, ⟨(0, 0, 8), List.mem_cons_self, by decide⟩, ⟨⟨-1, 0, []⟩, List.mem_cons_self, by decide⟩,
    ⟨⟨0, 0, [(32, 0)]⟩, List.mem_cons_self, (32, 0), List.mem_cons_self, by decide⟩⟩

/-- The three ways out of range; two ranges that share address 3; an empty device at 0 and one at 15, each beside another; and
an accepted launch with devices at 0 and at 15. -/
theorem witness_PortRangesResolve :
    (∃ d ∈ [(⟨15, 2, .timer⟩ : RawPort)], d.first < 0 ∨ 15 < d.first ∨ 16 < d.first + d.count) ∧
    ((-1 : Int) < 0 ∧ (15 : Int) < 16) ∧
    { good with ports := [⟨0, 4, .timer⟩, ⟨3, 1, .modulo⟩] }.ports =
      [] ++ (⟨0, 4, .timer⟩ : RawPort) :: ([] ++ (⟨3, 1, .modulo⟩ : RawPort) :: []) ∧
    (∃ a : Int, 0 ≤ a ∧ a < 0 + ((4 : Nat) : Int) ∧ 3 ≤ a ∧ a < 3 + ((1 : Nat) : Int)) ∧
    ({ good with ports := [⟨0, 0, .timer⟩, ⟨0, 4, .modulo⟩] }.ports = [] ++ (⟨0, 0, .timer⟩ : RawPort) :: [⟨0, 4, .modulo⟩] ∧
      { good with ports := [⟨15, 1, .modulo⟩, ⟨15, 0, .timer⟩] }.ports = [⟨15, 1, .modulo⟩] ++ (⟨15, 0, .timer⟩ : RawPort) :: []) ∧
    launch good = .next (State.resetWith (runOfRaw good)) :=
  ⟨⟨⟨15, 2, .timer⟩, List.mem_cons_self, by decide⟩, by decide, rfl, ⟨3, by decide⟩, ⟨rfl, rfl⟩, rfl⟩

theorem witness_FrozenTickDoesNothing : State.reset.fault ≠ none ∧ (start []).halt.halted = true := by decide

/-- Lines 32 and 0, in `Fetch` and in `Await`. -/
theorem witness_AbsentLineHaltsCleanly :
    { start [] with line := 32 }.running ∧ 31 < { start [] with line := 32 }.line ∧ (start []).islot.lines.get 0 = none ∧
    { start [0x10] with line := 1, eu := .await .imm 0 }.running ∧ (start [0x10]).islot.lines.get 1 = none ∧
    after { start [0x10] with line := 1, eu := .await .imm 0 } (fun t => t.halted) = some true := by decide

theorem witness_ReservedByteFatalOnlyInFetch :
    Starts 0x08 ∧ Starts 0x0F ∧ Starts 0xB8 ∧ Starts 0xBF ∧
    step (start [0xBF]) = .next ((start [0xBF]).raise .undecodableInstruction) :=
  ⟨starts _, starts _, starts _, starts _, rfl⟩

/-- A tick that raises, a machine in `FAULT`, a running machine, and an instruction that raises with `FAULT` none. -/
theorem witness_FatalConditionsArePrecise :
    (nextOf (step (start [0xE2]))).map (fun t => decide (t.fault ≠ (start [0xE2]).fault)) = some true ∧
    State.reset.fault ≠ none ∧ (start [0x08]).running ∧ (nextOf (step (start [0x08]))).isSome = true ∧
    (start []).fault = none ∧ (nextOf (exec (.ent 31) (start []))).isSome = true := by decide

/-- At line 31: an undecodable byte, a one-byte and a two-byte opcode, and a secondary byte. -/
theorem witness_TickDispatchesOnEuState :
    (atLast 0x08).running ∧ (atLast 0x08).line ≤ 31 ∧ (atLast 0x08).islot.lines.get 31 = some 0x08 ∧
    (atLast 0x08).eu = .fetch ∧ decodeByte 0x08 = none ∧
    decodeByte 0x10 = some (.imm, 0) ∧ Opcode.imm.hasSecondary = true ∧
    decodeByte 0x4A = some (.add, 2) ∧ Opcode.add.hasSecondary = false ∧
    { atLast 0x05 with eu := .await .imm 0 }.running ∧
    (nextOf (step { atLast 0x05 with eu := .await .imm 0 })).isSome = true := by decide

/-- A one-byte instruction at line 31, and a two-byte one at lines 30 and 31. -/
def pairAtLast : State :=
  { start [] with line := 30, islot := { seg := 0, page := 0, valid := true, lines := [(30, 0x10), (31, 0x05)] } }

theorem witness_StepRunsDecodedInstruction :
    (atLast 0x4A).running ∧ decode [0x4A] = .ok (.add .r2) [] ∧
    pairAtLast.running ∧ pairAtLast.eu = .fetch ∧ pairAtLast.line ≤ 31 ∧ pairAtLast.islot.lines.get 30 = some 0x10 ∧
    pairAtLast.line + 1 ≤ 31 ∧ pairAtLast.islot.lines.get (pairAtLast.line + 1) = some 0x05 ∧
    decode [0x10, 0x05] = .ok (.imm .acc 0x05) [] := by decide

/-- Bytes with a rest; an encoding; a byte that decodes. -/
theorem witness_DecodeEncodeAgree :
    decode [0xFF, 0x08] = .ok (.ent 31) [0x08] ∧ encodeByte .ent 31 = some 0xFF ∧ decodeByte 0xFF = some (.ent, 31) := by
  decide

/-- The greatest operand that fits and the least that does not, for each width. -/
theorem witness_EncodeFailsOnUnfitOperand :
    0 < 2 ^ Opcode.nop.width ∧ 2 ^ Opcode.nop.width ≤ 1 ∧ 7 < 2 ^ Opcode.add.width ∧ 2 ^ Opcode.add.width ≤ 8 ∧
    15 < 2 ^ Opcode.pst.width ∧ 2 ^ Opcode.pst.width ≤ 16 ∧ 31 < 2 ^ Opcode.ent.width ∧ 2 ^ Opcode.ent.width ≤ 32 ∧
    Opcode.nop.width = 0 := by decide

theorem witness_OpcodesPrefixFree : (0x4A : Byte) >>> Opcode.add.width = Opcode.add.pattern >>> Opcode.add.width := by decide

theorem witness_RegisterReadAndWrite : Reg.r1 ≠ .acc ∧ Reg.r7 ≠ .acc ∧ Reg.r7 ≠ .r1 := by decide

theorem witness_ConditionsByNumber : (0 : BitVec 3).toNat < 4 ∧ (3 : BitVec 3).toNat < 4 := by decide

theorem witness_StacksAreLifo : (start []).pstack = [] ∧ (start []).cstack = [] := by decide

theorem witness_NopOnlyAdvances : Starts 0x00 := starts _

theorem witness_ImmLoadsSecondaryByte :
    Starts (0x10 ||| Reg.acc.bits.setWidth 8) ∧ Starts (0x10 ||| Reg.r7.bits.setWidth 8) ∧ Awaits .imm 7 0xFF :=
  ⟨starts _, starts _, awaits _ _ _⟩

theorem witness_AccumulatorExchangesWithRegister :
    Starts (0x18 ||| Reg.acc.bits.setWidth 8) ∧ Starts (0x20 ||| Reg.r7.bits.setWidth 8) := ⟨starts _, starts _⟩

theorem witness_AddUsesAndClearsCarryModifier : Starts (0x48 ||| Reg.r7.bits.setWidth 8) := starts _

theorem witness_SubSetsBorrow : Starts (0x50 ||| Reg.r7.bits.setWidth 8) := starts _

theorem witness_BitwiseOperationsWriteAccumulator :
    Starts (0x58 ||| Reg.acc.bits.setWidth 8) ∧ Starts (0x60 ||| Reg.r7.bits.setWidth 8) ∧
    Starts (0x68 ||| Reg.r7.bits.setWidth 8) := ⟨starts _, starts _, starts _⟩

theorem witness_UnaryOperationsInPlace :
    Starts (0x28 ||| Reg.acc.bits.setWidth 8) ∧ Starts (0x30 ||| Reg.r7.bits.setWidth 8) ∧
    Starts (0x38 ||| Reg.r7.bits.setWidth 8) ∧ Starts (0x40 ||| Reg.r7.bits.setWidth 8) :=
  ⟨starts _, starts _, starts _, starts _⟩

theorem witness_CrySetsCarryModifier :
    Starts 0x01 ∧ (∀ r, Instr.ret ≠ .add r) ∧ { start [] with cmod := true }.cmod = true ∧
    (nextOf (exec .ret { start [] with cmod := true })).isSome = true := ⟨starts _, nofun, rfl, by decide⟩

theorem witness_PushInstructions :
    Starts (0x70 ||| Reg.r7.bits.setWidth 8) ∧ Starts (0x80 ||| Reg.r7.bits.setWidth 8) ∧ Starts 0x06 ∧ Starts 0x07 ∧
    Awaits .ppi 0 0xFF ∧ Awaits .cpi 0 0xFF :=
  ⟨starts _, starts _, starts _, starts _, awaits _ _ _, awaits _ _ _⟩

theorem witness_PopInstructions :
    Starts (0x78 ||| Reg.r7.bits.setWidth 8) ∧ Starts (0x88 ||| Reg.r7.bits.setWidth 8) ∧
    { start [] with pstack := [9] }.pstack = 9 :: [] ∧ (start []).pstack = [] ∧
    { start [] with cstack := [9] }.cstack = 9 :: [] ∧ (start []).cstack = [] :=
  ⟨starts _, starts _, rfl, rfl, rfl, rfl⟩

theorem witness_AddressModifierSetters :
    Starts (0x90 ||| Reg.r7.bits.setWidth 8) ∧ Starts 0x02 ∧ (nextOf (exec .ret (start []))).isSome = true ∧
    (∀ b, Instr.ret ≠ .jmp b ∧ Instr.ret ≠ .cal b) ∧ (∀ cc b, Instr.ret ≠ .brh cc b) ∧
    (∀ r b, Instr.ret ≠ .mld r b ∧ Instr.ret ≠ .mst r b) ∧ (∀ r, Instr.ret ≠ .poi r) ∧ Instr.ret ≠ .fwd :=
  ⟨starts _, starts _, by decide, fun _ => ⟨nofun, nofun⟩, nofun, fun _ _ => ⟨nofun, nofun⟩, nofun, nofun⟩

theorem witness_JmpTransfersToCompositeAddress : Starts 0x04 ∧ Awaits .jmp 0 0x20 := ⟨starts _, awaits _ _ _⟩

theorem witness_CalPushesReturnAddress : Starts 0x05 ∧ Awaits .cal 0 0x20 := ⟨starts _, awaits _ _ _⟩

theorem witness_BrhTakenAndNotTaken :
    Starts (0x98 ||| Cond.np.bits.setWidth 8) ∧ Awaits .brh 7 0x20 ∧ (start []).flags.holds .np = true ∧
    (start []).flags.holds .nc = false := ⟨starts _, awaits _ _ _, rfl, rfl⟩

theorem witness_RetTransfersToPoppedAddress :
    Starts 0x03 ∧ { start [] with cstack := [0xFF] }.cstack = 0xFF :: [] ∧ (start []).cstack = [] := ⟨starts _, rfl, rfl⟩

/-- A hit; a miss by validity. -/
theorem witness_InstructionCacheController :
    ((start []).islot.valid = true ∧ (start []).islot.seg = 0 ∧ (start []).islot.page = 0) ∧
    ¬((mmuIsg (start [])).islot.valid = true ∧ (mmuIsg (start [])).islot.seg = 0 ∧ (mmuIsg (start [])).islot.page = 0) := by
  decide

/-- A hit; a clean miss; a dirty miss. -/
theorem witness_DataCacheController :
    (dirty.dslot.valid = true ∧ dirty.dslot.seg = 0 ∧ dirty.dslot.page = 2) ∧
    (¬((start []).dslot.valid = true ∧ (start []).dslot.seg = 0 ∧ (start []).dslot.page = 7) ∧
      (start []).dslot.dirty = false) ∧
    (¬(dirty.dslot.valid = true ∧ dirty.dslot.seg = 0 ∧ dirty.dslot.page = 7) ∧ dirty.dslot.dirty = true) := by decide

theorem witness_EffectiveDataSegment :
    { start [] with kds := some 1, ds := some 2 }.kds = some 1 ∧
    ({ start [] with ds := some 2 }.kds = none ∧ { start [] with ds := some 2 }.ds = some 2) ∧
    ((start []).kds = none ∧ (start []).ds = none) := by decide

/-- A present and an absent line of the page made resident. -/
theorem witness_MldLoadsThroughDataSlot :
    Starts (0xA0 ||| Reg.r7.bits.setWidth 8) ∧ Awaits .mld 7 0x45 ∧
    (dirty.dcacheCtl dirty.dseg 2).dslot.lines.get 5 = some 0x2A ∧ (dirty.dcacheCtl dirty.dseg 2).dslot.lines.get 31 = none :=
  ⟨starts _, awaits _ _ _, by decide, by decide⟩

theorem witness_MstStoresThroughDataSlot :
    Starts (0xA8 ||| Reg.r7.bits.setWidth 8) ∧ Awaits .mst 7 0x45 ∧ (31 : Nat) ≠ (0x45 : Byte).toNat % 32 :=
  ⟨starts _, awaits _ _ _, by decide⟩

/-- A load that evicts the dirty page. -/
theorem witness_OnlyMstChangesMemory :
    (∀ r b, Instr.mld .r1 0x60 ≠ .mst r b) ∧ (nextOf (exec (.mld .r1 0x60) dirty)).isSome = true :=
  ⟨nofun, by decide⟩

theorem witness_MstChangesExactlyOneByte : dirty.Inv := dirty_inv

theorem witness_MldReadsMemoryByte : dirty.Inv := dirty_inv

theorem witness_EvictedStoreIsReloaded : (0x60 : Byte) >>> 5 ≠ dirty.composedAddr 0x45 >>> 5 := by decide

theorem witness_OnlyDirtyMissWritesStore :
    (nextOf (exec (.mld .r1 0x60) dirty)).map (fun t => decide (t.store ≠ dirty.store)) = some true := by decide

theorem witness_FetchedPageChangesOnlyByTransfer :
    (nextOf (exec (.mst .acc 0x06) dirty)).isSome = true ∧ (∀ b, Instr.mst .acc 0x06 ≠ .jmp b) ∧
    (∀ b, Instr.mst .acc 0x06 ≠ .cal b) ∧ (∀ cc b, Instr.mst .acc 0x06 ≠ .brh cc b) ∧ Instr.mst .acc 0x06 ≠ .ret ∧
    (∀ n, Instr.mst .acc 0x06 ≠ .ent n) ∧ Instr.mst .acc 0x06 ≠ .mmu .lkp :=
  ⟨by decide, nofun, nofun, nofun, nofun, nofun, nofun⟩

/-- Ports 15 and 3 of a map with devices at 0 and 15. -/
theorem witness_PstStoresAccumulator :
    Starts (0xC0 ||| (15 : PortAddr).setWidth 8) ∧ (∃ e ∈ (app []).cfg.portMap, e.port = 15) ∧
    ∀ e ∈ (app []).cfg.portMap, e.port ≠ 3 := ⟨starts _, by decide, by decide⟩

theorem witness_PldLoadsDeviceAnswer :
    Starts (0xD0 ||| (15 : PortAddr).setWidth 8) ∧ (∃ e ∈ (app []).cfg.portMap, e.port = 15) ∧
    ∀ e ∈ (app []).cfg.portMap, e.port ≠ 3 := ⟨starts _, by decide, by decide⟩

theorem witness_ListedPortAnswersAreUsedInOrder :
    (∃ e ∈ { app [] with portAnswers := [7, 8] }.cfg.portMap, e.port = 0) ∧
    { app [] with portAnswers := [7, 8] }.portAnswers = 7 :: [8] := by decide

theorem witness_PortEventsOnlyByPortInstructions :
    (nextOf (exec (.pst 0) (app []))).map (fun t => t.events) = some [.portStore 0 0x00] := by decide

theorem witness_EntTakesTheTrap :
    Starts (0xE0 ||| (31 : SysNum).setWidth 8) ∧ (start []).mode = .kernel ∧
    ({ start [] with mode := .application }.mode = .application ∧
      { start [] with mode := .application }.cfg.kernelEntry = none) ∧
    ((app []).mode = .application ∧ (app []).cfg.kernelEntry = some ⟨1, 0, 3⟩) :=
  ⟨starts _, rfl, ⟨rfl, rfl⟩, rfl, rfl⟩

theorem witness_MmuIsSilentInApplicationMode :
    Starts (0xB0 ||| MmuOp.gpi.bits.setWidth 8) ∧ (app []).mode = .application := ⟨starts _, rfl⟩

theorem witness_SegmentOperations :
    (start []).mode = .kernel ∧ { start [] with ds := some 0 }.ds ≠ none ∧
    (nextOf (exec (.mmu .dsg) { start [] with ds := some 0 })).isSome = true := by decide

/-- A number the table lacks, and the one it has. -/
theorem witness_LoadKernelPageFollowsSyscallTable :
    (start []).mode = .kernel ∧ (∀ e ∈ (start []).cfg.syscallTable, e.number ≠ (start []).a) ∧
    ({ start [] with a := 2, cfg := params }.mode = .kernel ∧ (⟨2, 1, 1⟩ : SyscallEntry) ∈ params.syscallTable ∧
      ∀ f ∈ params.syscallTable, f.number = 2 → f = ⟨2, 1, 1⟩) := by decide

theorem witness_ExitKernelMode : { start [] with kds := some 1 }.mode = .kernel := rfl

theorem witness_ProcessIdOperations : (start []).mode = .kernel := rfl

/-- Both ways the mode changes. -/
theorem witness_ModeChangesOnlyByEntAndExit :
    (nextOf (exec (.ent 31) (app []))).map (fun t => t.mode) = some .kernel ∧
    (nextOf (exec (.mmu .xkm) (start []))).map (fun t => t.mode) = some .application := by decide

theorem witness_OtherInstructionsIgnoreMode :
    (∀ f, Instr.pst 0 ≠ .mmu f) ∧ (∀ n, Instr.pst 0 ≠ .ent n) ∧ (nextOf (exec (.pst 0) (app []))).isSome = true :=
  ⟨nofun, nofun, by decide⟩

theorem witness_ApplicationKeepsControlState :
    (app []).mode = .application ∧ (∀ n, Instr.mmu .isg ≠ .ent n) ∧ (nextOf (exec (.mmu .isg) (app []))).isSome = true :=
  ⟨rfl, nofun, by decide⟩

theorem witness_LaunchMeetsInvariant : launch good = .next (State.resetWith (runOfRaw good)) := rfl

/-- A machine that meets the invariant, whose step runs a store that evicts. -/
theorem witness_StepKeepsInvariant : dirty.Inv ∧ (nextOf (step dirty)).isSome = true := ⟨dirty_inv, by decide⟩

end Sys2Proof.Tests
end

section
/-!
PROOFS. Launch (spec/00_scope.md R3, 70_reset_and_hazards.md R240, R244): what an accepted configuration is, the store it
supplies, and the state its run starts in.
-/
namespace Sys2Proof

/-! ### What an accepted configuration is -/

@[simp] theorem inRange_iff {hi x : Int} : inRange hi x = true ↔ 0 ≤ x ∧ x ≤ hi := by simp [inRange]

theorem entryOk_some_iff {s g l : Int} :
    entryOk (some (s, g, l)) = true ↔ (0 ≤ s ∧ s ≤ 255) ∧ (0 ≤ g ∧ g ≤ 7) ∧ (0 ≤ l ∧ l ≤ 31) := by
  simp [entryOk, and_assoc]

theorem syscallOk_iff {e : Int × Int × Int} :
    syscallOk e = true ↔ (0 ≤ e.1 ∧ e.1 ≤ 255) ∧ (0 ≤ e.2.1 ∧ e.2.1 ≤ 255) ∧ (0 ≤ e.2.2 ∧ e.2.2 ≤ 7) := by
  simp [syscallOk, and_assoc]

theorem RawPage.ok_iff {pg : RawPage} :
    pg.ok = true ↔ ((0 ≤ pg.seg ∧ pg.seg ≤ 255) ∧ (0 ≤ pg.page ∧ pg.page ≤ 7)) ∧
      ∀ l ∈ pg.lines, (0 ≤ l.1 ∧ l.1 ≤ 31) ∧ (0 ≤ l.2 ∧ l.2 ≤ 255) := by
  simp only [RawPage.ok, Bool.and_eq_true, List.all_eq_true, inRange_iff]

theorem RawConfig.wf_iff {c : RawConfig} :
    c.wf = true ↔ entryOk c.kernelEntry = true ∧ (∀ e ∈ c.syscallTable, syscallOk e = true) ∧
      (∀ pg ∈ c.pages, pg.ok = true) ∧ (∀ d ∈ c.ports, d.ok = true) ∧ portsApart c.ports = true ∧
      c.distinctKeys = true := by
  simp only [RawConfig.wf, Bool.and_eq_true, List.all_eq_true, and_assoc]

end Sys2Proof

namespace Sys2Proof.Machine

theorem launch_of_wf {c : RawConfig} (h : c.wf = true) : launch c = .next (State.resetWith (runOfRaw c)) := if_pos h

theorem launch_of_not_wf {c : RawConfig} (h : ¬ c.wf = true) : launch c = .refused .badConfiguration := if_neg h

theorem launch_eq_next_iff {c : RawConfig} {t : State} :
    launch c = .next t ↔ c.wf = true ∧ t = State.resetWith (runOfRaw c) := by
  by_cases h : c.wf = true
  · simp [launch_of_wf h, h, eq_comm]
  · simp [launch_of_not_wf h, h]

/-- Settles O3: each way out of range contradicts one conjunct of `RawConfig.wf`. -/
theorem configurationOutOfRangeRefused : Obligations.ConfigurationOutOfRangeRefused := by
  intro c hout
  refine launch_of_not_wf fun hwf => ?_
  obtain ⟨hentry, hsyscalls, hpages, -⟩ := RawConfig.wf_iff.1 hwf
  rcases hout with ⟨s, g, l, he, hbad⟩ | ⟨e, he, hbad⟩ | ⟨pg, hpg, hbad⟩ | ⟨pg, hpg, l, hl, hbad⟩
  · exact hbad (entryOk_some_iff.1 (he ▸ hentry))
  · exact hbad (syscallOk_iff.1 (hsyscalls e he)).2
  · exact hbad (RawPage.ok_iff.1 (hpages pg hpg)).1
  · exact hbad ((RawPage.ok_iff.1 (hpages pg hpg)).2 l hl)

/-! ### The state a run starts in -/

/-- Line numbers in 0..31, in any order, give lines in canonical form. -/
theorem wfLines_linesOfRaw {ls : List (Int × Int)} (h : ∀ l ∈ ls, 0 ≤ l.1 ∧ l.1 ≤ 31) :
    (linesOfRaw ls).wfLines = true := by
  induction ls with
  | nil => rfl
  | cons l rest ih =>
    obtain ⟨hl, hrest⟩ := List.forall_mem_cons.1 h
    exact Memory.wfLines_set (ih hrest) _ (by omega)

theorem wf_storeOfRaw {pages : List RawPage} (h : ∀ pg ∈ pages, pg.ok = true) : (storeOfRaw pages).wf = true := by
  induction pages with
  | nil => exact Store.wf_empty
  | cons pg rest ih =>
    obtain ⟨hpg, hrest⟩ := List.forall_mem_cons.1 h
    exact Store.wf_put (ih hrest) _ _ (wfLines_linesOfRaw fun l hl => ((RawPage.ok_iff.1 hpg).2 l hl).1)

/-- Reset on a store in canonical form meets the invariant: the data slot is empty and clean, the first byte is not yet
fetched, and the instruction slot is a clone in segment 0 (R241). -/
theorem State.resetWith_inv {cfg : RunConfig} (h : cfg.store0.wf = true) : (State.resetWith cfg).Inv where
  store_wf := h
  islot_wf := Store.wfLines_clone h _ _
  dslot_wf := rfl
  line_le := Nat.zero_le _
  fetch_segment _ := rfl
  kernel_override := absurd rfl
  clean_clone := nofun
  dirty_lines := nofun
  held := nofun

/-- Settles O59: an accepted configuration's pages give a store in canonical form. -/
theorem launchMeetsInvariant : Obligations.LaunchMeetsInvariant := by
  intro c t hlaunch
  obtain ⟨hwf, rfl⟩ := launch_eq_next_iff.1 hlaunch
  obtain ⟨-, -, hpages, -⟩ := RawConfig.wf_iff.1 hwf
  exact State.resetWith_inv (wf_storeOfRaw hpages)

end Sys2Proof.Machine
end

section
/-!
PROOFS. State (spec/10_state.md): registers by number and the accumulator write (R11, R12, R14), the conditions by number
(R16), the two stacks (R19), and what changes the mode (R28, 47_privilege_mmu.md R201).
-/
namespace Sys2Proof.Machine

/-! ### Registers by number -/

/-- Writing a general register changes general registers only (R12). -/
theorem State.writeReg_frame (s : State) {r : Reg} (V : Int) (h : r ≠ .acc) :
    s.writeReg r V = { s with
      r1 := (s.writeReg r V).r1, r2 := (s.writeReg r V).r2, r3 := (s.writeReg r V).r3, r4 := (s.writeReg r V).r4
      r5 := (s.writeReg r V).r5, r6 := (s.writeReg r V).r6, r7 := (s.writeReg r V).r7 } := by
  cases r
  case acc => exact absurd rfl h
  all_goals rfl

/-- Settles O16: the accumulator's number is `writeAcc`; another number reads back by `x_writeReg` and keeps the rest by
`writeReg_frame`. -/
theorem registerReadAndWrite : Obligations.RegisterReadAndWrite := by
  intro s V
  refine ⟨rfl, rfl, rfl, rfl, rfl, rfl, rfl, rfl, rfl, fun r hr => ⟨?_, fun q hq => ?_, s.writeReg_frame V hr⟩⟩
  · rw [State.x_writeReg, if_pos rfl]
  · rw [State.x_writeReg, if_neg hq]

/-! ### Conditions by number -/

/-- Four above the number of a stored flag stands its complement (R16). -/
theorem Flags.holds_ofBits_add_four (f : Flags) {k : BitVec 3} (hk : k.toNat < 4) :
    f.holds (Cond.ofBits (k + 4)) = !f.holds (Cond.ofBits k) := by
  have hcases : ∀ k : BitVec 3, k.toNat < 4 → k = 0 ∨ k = 1 ∨ k = 2 ∨ k = 3 := by decide
  rcases hcases k hk with rfl | rfl | rfl | rfl <;> rfl

/-- Settles O17: the stored flags by their numbers, and the complements four above. -/
theorem conditionsByNumber : Obligations.ConditionsByNumber :=
  fun f => ⟨rfl, rfl, rfl, rfl, fun _ => f.holds_ofBits_add_four⟩

/-! ### The stacks -/

section Stack

/-! Both stacks of the machine are a list-valued field with a push that conses on it and a drop that takes its tail. -/

variable {stack : State → List Byte} {push : State → Byte → State} {drop : State → State}

theorem stack_foldl_push (hpush : ∀ s v, stack (push s v) = v :: stack s) (vs : List Byte) (s : State) :
    stack (vs.foldl push s) = vs.reverse ++ stack s := by
  rw [← List.foldl_hom stack (g₂ := fun l v => v :: l) fun s v => (hpush s v).symm, List.foldl_flip_cons_eq_append']

theorem stack_iterate_drop (hdrop : ∀ s, stack (drop s) = (stack s).tail) (j : Nat) (s : State) :
    stack (drop^[j] s) = (stack s).drop j := by
  rw [← List.tail_iterate]
  exact Function.Semiconj.iterate_right (f := stack) hdrop j s

theorem topOf_drop (l : List Byte) (j : Nat) : topOf (l.drop j) = l.getD j 0#8 := by
  rw [topOf, List.headD_eq_head?_getD, List.head?_drop, List.getD_eq_getElem?_getD]

/-- What is pushed on an empty stack is popped last first, and 0 from then on (R19). -/
theorem stack_lifo (hpush : ∀ s v, stack (push s v) = v :: stack s) (hdrop : ∀ s, stack (drop s) = (stack s).tail)
    (vs : List Byte) (j : Nat) {s : State} (hempty : stack s = []) :
    topOf (stack (drop^[j] (vs.foldl push s))) = vs.reverse.getD j 0#8 := by
  rw [stack_iterate_drop hdrop, stack_foldl_push hpush, hempty, List.append_nil, topOf_drop]

end Stack

/-- Settles O18: `stack_lifo` on either stack. -/
theorem stacksAreLifo : Obligations.StacksAreLifo :=
  fun vs _ j =>
    ⟨stack_lifo State.pushP_pstack State.dropP_pstack vs j, stack_lifo State.pushC_cstack State.dropC_cstack vs j⟩

/-! ### The mode -/

@[simp] theorem State.enterKernel_mode (s : State) (e : EntryPoint) (n : SysNum) : (s.enterKernel e n).mode = .kernel := by
  simp [State.enterKernel]

@[simp] theorem State.exitKernel_mode (s : State) : s.exitKernel.mode = .application := rfl

@[simp] theorem mmuLkp_mode (s : State) : (mmuLkp s).mode = s.mode := by
  cases h : syscallIn s.cfg.syscallTable s.a with
  | none => rw [mmuLkp_of_none h, State.raise_mode]
  | some e => rw [mmuLkp_of_some h]

/-- Every instruction but `MMU` and `ENT` keeps the segment registers, the process id and the mode (R58, R201). -/
theorem exec_keeps_control {i : Instr} {s t : State} (hmmu : ∀ f, i ≠ .mmu f) (hent : ∀ n, i ≠ .ent n)
    (h : exec i s = .next t) :
    t.iseg = s.iseg ∧ t.ds = s.ds ∧ t.kds = s.kds ∧ t.pid = s.pid ∧ t.mode = s.mode := by
  cases i
  case mmu f => exact absurd rfl (hmmu f)
  case ent n => exact absurd rfl (hent n)
  case brh cc b =>
    simp only [exec, execBrh] at h
    split at h <;> (obtain rfl := Host.Outcome.next.inj h; simp)
  case pld p =>
    simp only [exec, execPld] at h
    split at h <;> (obtain rfl := Host.Outcome.next.inj h; simp)
  all_goals
    obtain rfl := Host.Outcome.next.inj h
    simp

/-- `MMU` changes the mode by sub-operation 5 only, to application (R198). -/
theorem execMmu_mode {f : MmuOp} {s t : State} (h : execMmu f s = .next t) :
    t.mode = s.mode ∨ (f = .xkm ∧ t.mode = .application) := by
  cases hm : s.mode with
  | application =>
    rw [execMmu_of_application hm] at h
    obtain rfl := Host.Outcome.next.inj h
    exact .inl hm
  | kernel =>
    rw [execMmu_of_kernel hm] at h
    obtain rfl := Host.Outcome.next.inj h
    cases f
    case xkm => exact .inr ⟨rfl, rfl⟩
    case lkp => exact .inl ((mmuLkp_mode s).trans hm)
    all_goals exact .inl hm

/-- `ENT` leaves the mode as it is where it is fatal, and enters kernel mode otherwise (R190). -/
theorem execEnt_mode {n : SysNum} {s t : State} (h : execEnt n s = .next t) : t.mode = s.mode ∨ t.mode = .kernel := by
  cases hm : s.mode with
  | kernel =>
    rw [execEnt_of_kernel hm] at h
    obtain rfl := Host.Outcome.next.inj h
    exact .inl hm
  | application =>
    cases hc : s.cfg.kernelEntry with
    | none =>
      rw [execEnt_of_unconfigured hm hc] at h
      obtain rfl := Host.Outcome.next.inj h
      exact .inl hm
    | some e =>
      rw [execEnt_of_entry hm hc] at h
      obtain rfl := Host.Outcome.next.inj h
      exact .inr (s.enterKernel_mode e n)

/-- Settles O55: `execMmu_mode` and `execEnt_mode` for the two that can, and `exec_keeps_control` for the rest. -/
theorem modeChangesOnlyByEntAndExit : Obligations.ModeChangesOnlyByEntAndExit := by
  intro i s t h hne
  by_cases hmmu : ∃ f, i = .mmu f
  · obtain ⟨f, rfl⟩ := hmmu
    obtain ⟨rfl, hmode⟩ := (execMmu_mode h).resolve_left hne
    exact .inr ⟨rfl, hmode⟩
  by_cases hent : ∃ n, i = .ent n
  · obtain ⟨n, rfl⟩ := hent
    exact .inl ⟨⟨n, rfl⟩, (execEnt_mode h).resolve_left hne⟩
  obtain ⟨-, -, -, -, hmode⟩ := exec_keeps_control (not_exists.1 hmmu) (not_exists.1 hent) h
  exact absurd hmode hne

end Sys2Proof.Machine
end

section
/-!
PROOFS. Memory (spec/20_memory.md): the two cache controllers (R45 to R47), the data segment (R50), what a data access
reads and writes (R52, R53, R59), and which instructions reach `STORE` and the instruction slot (R42, R61).
-/
namespace Sys2Proof.Machine

/-! ### Lines by number -/

/-- A clone reads, at every line number, as the page it was cloned from (R44). -/
@[simp] theorem Store.get_clone_toNat (st : Store) (seg : Segment) (page : PageNum) (l : LineNum) :
    (st.clone seg page).get l.toNat = st.get seg page l.toNat := by
  rw [Store.get_clone, if_pos l.isLt]

/-- After a write-back the page reads, at every line number, as the lines written, and every other page as before. -/
theorem Store.get_put_toNat (st : Store) (seg : Segment) (page : PageNum) (lines : Memory) (sg : Segment) (pg : PageNum)
    (l : LineNum) :
    (st.put seg page lines).get sg pg l.toNat =
      if (sg, pg) = (seg, page) then lines.get l.toNat else st.get sg pg l.toNat := by
  simp only [Store.get_put st seg page lines sg pg l.isLt, Prod.mk.injEq]

/-- The line part of a packed address is its low five bits (R41). -/
theorem lineOf_eq_toNat (addr : Byte) : lineOf addr = (addr.setWidth 5).toNat := by
  rw [lineOf_eq_mod, BitVec.toNat_setWidth]

/-! ### The cache controllers -/

theorem ISlot.hits_eq_false_iff (sl : ISlot) (seg : Segment) (page : PageNum) :
    sl.hits seg page = false ↔ ¬(sl.valid = true ∧ sl.seg = seg ∧ sl.page = page) := by
  rw [← ISlot.hits_iff, Bool.not_eq_true]

theorem DSlot.hits_eq_false_iff (sl : DSlot) (seg : Segment) (page : PageNum) :
    sl.hits seg page = false ↔ ¬(sl.valid = true ∧ sl.seg = seg ∧ sl.page = page) := by
  rw [← DSlot.hits_iff, Bool.not_eq_true]

/-- Settles O34: `icacheCtl_of_hit` and `icacheCtl_of_miss`, the clone read line by line. -/
theorem instructionCacheController : Obligations.InstructionCacheController := by
  intro s seg page
  refine ⟨fun hhit => State.icacheCtl_of_hit ((ISlot.hits_iff _ _ _).2 hhit), fun hmiss => ?_⟩
  rw [State.icacheCtl_of_miss ((ISlot.hits_eq_false_iff _ _ _).2 hmiss)]
  exact ⟨rfl, Store.get_clone_toNat _ _ _⟩

/-- Settles O35: `dcacheCtl_of_hit`; on a miss the slot is clean or dirty, and what a write-back makes of `STORE` is
`isMapped_put` and `get_put_toNat`. -/
theorem dataCacheController : Obligations.DataCacheController := by
  intro s seg page
  refine ⟨fun hhit => State.dcacheCtl_of_hit ((DSlot.hits_iff _ _ _).2 hhit), fun hmiss => ?_⟩
  rw [State.dcacheCtl_of_miss ((DSlot.hits_eq_false_iff _ _ _).2 hmiss)]
  cases hd : s.dslot.dirty with
  | false =>
    rw [State.writeBack_of_clean hd]
    exact ⟨rfl, fun _ => ⟨rfl, rfl⟩, nofun, Store.get_clone_toNat _ _ _⟩
  | true =>
    rw [State.writeBack_of_dirty hd]
    refine ⟨rfl, nofun, fun _ => ⟨rfl, ?_, fun sg pg => ⟨fun hne => ?_, Store.get_put_toNat _ _ _ _ sg pg⟩⟩,
      Store.get_clone_toNat _ _ _⟩
    · simp [Store.isMapped_put]
    · have hother : ¬(sg = s.dslot.seg ∧ pg = s.dslot.page) := by rwa [← Prod.mk.injEq]
      simp [Store.isMapped_put, hother]

/-! ### The data segment -/

theorem State.dseg_of_kds {s : State} {k : Segment} (hk : s.kds = some k) : s.dseg = k := by
  simp only [State.dseg, hk]

theorem State.dseg_of_ds {s : State} {d : Segment} (hk : s.kds = none) (hd : s.ds = some d) : s.dseg = d := by
  simp only [State.dseg, hk, hd]

theorem State.dseg_of_none {s : State} (hk : s.kds = none) (hd : s.ds = none) : s.dseg = s.iseg := by
  simp only [State.dseg, hk, hd]

/-- Settles O36: one lemma for each of the three cases. -/
theorem effectiveDataSegment : Obligations.EffectiveDataSegment :=
  fun _ => ⟨fun _ => State.dseg_of_kds, fun _ => State.dseg_of_ds, State.dseg_of_none⟩

/-! ### What memory reads after a data access -/

/-- Making a page resident changes no byte of memory, also where it evicts a dirty page (R47, R59). -/
theorem State.dcacheCtl_memByte (s : State) (sg : Segment) (pg : PageNum) (seg : Segment) (page : PageNum)
    (line : LineNum) : (s.dcacheCtl sg pg).memByte seg page line = s.memByte seg page line := by
  rcases s.dcacheCtl_cases sg pg with ⟨-, heq⟩ | ⟨-, hclean, heq⟩ | ⟨-, hdirty, heq⟩
  · rw [heq]
  · simp [heq, State.memByte, hclean]
  · simp [heq, State.memByte, hdirty, Store.get_put_toNat, eq_comm]

section Resident

/-! A valid clean data slot has to be a clone of its page, one clause of the invariant (R44): a hit on a slot that is not
would read, and after a write keep, what memory does not hold. -/

variable {s : State}
  (hclone : s.dslot.valid = true → s.dslot.dirty = false → s.dslot.lines = s.store.clone s.dslot.seg s.dslot.page)
include hclone

/-- Once a page is resident, the slot's lines are the bytes memory holds there (R44, R59). -/
theorem State.dcacheCtl_lines_get (seg : Segment) (page : PageNum) (line : LineNum) :
    (s.dcacheCtl seg page).dslot.lines.get line.toNat = s.memByte seg page line := by
  rcases s.dcacheCtl_cases seg page with ⟨hhit, heq⟩ | ⟨-, hclean, heq⟩ | ⟨-, hdirty, heq⟩
  · obtain ⟨hvalid, rfl, rfl⟩ := (DSlot.hits_iff _ _ _).1 hhit
    cases hd : s.dslot.dirty with
    | false => simp [heq, State.memByte, hd, hclone hvalid hd]
    | true => simp [heq, State.memByte, hd]
  · simp [heq, State.memByte, hclean]
  · simp [heq, State.memByte, hdirty, Store.get_put_toNat, eq_comm]

/-- What a read yields is the byte of memory at its address, 0 where none is present (R52). -/
theorem State.touch_residentByte (addr : Byte) :
    (s.touch addr).residentByte addr = (s.memByte s.dseg (pageOf addr) (addr.setWidth 5)).getD 0#8 := by
  rw [State.residentByte, lineOf_eq_toNat, State.touch, State.dcacheCtl_lines_get hclone]

/-- A write makes the byte at its address the one written and changes no other byte of memory (R53, R59). -/
theorem State.memWrite_memByte (addr v : Byte) (seg : Segment) (page : PageNum) (line : LineNum) :
    (s.memWrite addr v).memByte seg page line =
      if (seg, page, line) = (s.dseg, pageOf addr, addr.setWidth 5) then some v else s.memByte seg page line := by
  obtain ⟨-, hseg, hpage⟩ := (DSlot.hits_iff _ _ _).1 (s.dcacheCtl_hits s.dseg (pageOf addr))
  by_cases hat : s.dseg = seg ∧ pageOf addr = page
  · obtain ⟨rfl, rfl⟩ := hat
    have hline : line.toNat = lineOf addr ↔ line = addr.setWidth 5 := by rw [lineOf_eq_toNat, BitVec.toNat_inj]
    rw [State.memByte, if_pos ⟨rfl, hseg, hpage⟩, State.memWrite_dslot_get, State.touch,
      State.dcacheCtl_lines_get hclone]
    simp [hline]
  · have haway : ¬((s.touch addr).dslot.seg = seg ∧ (s.touch addr).dslot.page = page) := by
      rwa [State.touch, hseg, hpage]
    have hpair : (seg, page, line) ≠ (s.dseg, pageOf addr, addr.setWidth 5) := by
      rintro ⟨⟩
      exact hat ⟨rfl, rfl⟩
    rw [if_neg hpair, ← s.dcacheCtl_memByte s.dseg (pageOf addr)]
    exact (if_neg fun h => haway h.2).trans (if_neg fun h => haway h.2).symm

end Resident

/-- Settles O40: `memWrite_memByte`, the modifiers being no part of memory. -/
theorem mstChangesExactlyOneByte : Obligations.MstChangesExactlyOneByte := by
  intro r b s hinv
  exact ⟨_, rfl, State.memWrite_memByte (s := s.clearModifiers) hinv.clean_clone (s.composedAddr b) (s.x r)⟩

/-- Settles O41: `touch_residentByte`, the modifiers being no part of memory. -/
theorem mldReadsMemoryByte : Obligations.MldReadsMemoryByte := by
  intro r b s hinv
  refine ⟨_, rfl, ?_⟩
  calc
    _ = (s.clearModifiers.touch (s.composedAddr b)).residentByte (s.composedAddr b) :=
      (State.x_setReg _ r r _).trans (if_pos rfl)
    _ = _ := State.touch_residentByte (s := s.clearModifiers) hinv.clean_clone (s.composedAddr b)

/-! ### What reaches `STORE` -/

@[simp] theorem mmuLkp_store (s : State) : (mmuLkp s).store = s.store := by
  cases h : syscallIn s.cfg.syscallTable s.a with
  | none => rw [mmuLkp_of_none h, State.raise_store]
  | some e => rw [mmuLkp_of_some h]

theorem execMmu_store {f : MmuOp} {s t : State} (h : execMmu f s = .next t) : t.store = s.store := by
  cases hm : s.mode with
  | application =>
    rw [execMmu_of_application hm] at h
    obtain rfl := Host.Outcome.next.inj h
    rfl
  | kernel =>
    rw [execMmu_of_kernel hm] at h
    obtain rfl := Host.Outcome.next.inj h
    cases f
    case lkp => exact mmuLkp_store s
    all_goals rfl

theorem execEnt_store {n : SysNum} {s t : State} (h : execEnt n s = .next t) : t.store = s.store := by
  cases hm : s.mode with
  | kernel =>
    rw [execEnt_of_kernel hm] at h
    obtain rfl := Host.Outcome.next.inj h
    rfl
  | application =>
    cases hc : s.cfg.kernelEntry with
    | none =>
      rw [execEnt_of_unconfigured hm hc] at h
      obtain rfl := Host.Outcome.next.inj h
      rfl
    | some e =>
      rw [execEnt_of_entry hm hc, State.enterKernel_eq] at h
      obtain rfl := Host.Outcome.next.inj h
      rfl

/-- Every instruction but `MLD` and `MST` keeps `STORE` (R42). -/
theorem exec_keeps_store {i : Instr} {s t : State} (hmld : ∀ r b, i ≠ .mld r b) (hmst : ∀ r b, i ≠ .mst r b)
    (h : exec i s = .next t) : t.store = s.store := by
  cases i
  case mld r b => exact absurd rfl (hmld r b)
  case mst r b => exact absurd rfl (hmst r b)
  case mmu f => exact execMmu_store h
  case ent n => exact execEnt_store h
  case brh cc b =>
    simp only [exec, execBrh] at h
    split at h <;> (obtain rfl := Host.Outcome.next.inj h; simp)
  case pld p =>
    simp only [exec, execPld] at h
    split at h <;> (obtain rfl := Host.Outcome.next.inj h; simp)
  all_goals
    obtain rfl := Host.Outcome.next.inj h
    simp

/-- If making a page resident changes `STORE`, it missed on a dirty slot and wrote that slot back (R47). -/
theorem State.dcacheCtl_store_ne {s : State} {seg : Segment} {page : PageNum}
    (hne : (s.dcacheCtl seg page).store ≠ s.store) :
    ¬(s.dslot.valid = true ∧ s.dslot.seg = seg ∧ s.dslot.page = page) ∧ s.dslot.dirty = true ∧
      (s.dcacheCtl seg page).store = s.store.put s.dslot.seg s.dslot.page s.dslot.lines ∧
      (s.dcacheCtl seg page).events = s.events ++ [.writeBack s.dslot.seg s.dslot.page] := by
  rcases s.dcacheCtl_cases seg page with ⟨-, heq⟩ | ⟨-, -, heq⟩ | ⟨hmiss, hdirty, heq⟩
  · exact absurd (congrArg State.store heq) hne
  · exact absurd (congrArg State.store heq) hne
  · rw [heq]
    exact ⟨(DSlot.hits_eq_false_iff _ _ _).1 hmiss, hdirty, rfl, rfl⟩

/-- Settles O43: `exec_keeps_store` leaves `MLD` and `MST`, whose change of `STORE` is that of their cache access. -/
theorem onlyDirtyMissWritesStore : Obligations.OnlyDirtyMissWritesStore := by
  intro i s t h hne
  by_cases hmld : ∃ r b, i = .mld r b
  · obtain ⟨r, b, rfl⟩ := hmld
    obtain rfl := Host.Outcome.next.inj h
    rw [State.advance_store, State.setReg_store] at hne ⊢
    rw [State.advance_events, State.setReg_events]
    obtain ⟨hmiss, hwrite⟩ := State.dcacheCtl_store_ne hne
    exact ⟨⟨r, b, .inl rfl, hmiss⟩, hwrite⟩
  by_cases hmst : ∃ r b, i = .mst r b
  · obtain ⟨r, b, rfl⟩ := hmst
    obtain rfl := Host.Outcome.next.inj h
    obtain ⟨hmiss, hwrite⟩ := State.dcacheCtl_store_ne (s := s.clearModifiers) hne
    exact ⟨⟨r, b, .inr rfl, hmiss⟩, hwrite⟩
  · exact absurd (exec_keeps_store (fun r b e => hmld ⟨r, b, e⟩) (fun r b e => hmst ⟨r, b, e⟩) h) hne

/-! ### What reaches the instruction slot -/

/-- Every sub-operation of `MMU` but 4 keeps the lines and the address of the instruction slot; sub-operation 0 clears its
valid bit (R51, R193). -/
theorem execMmu_keeps_fetched_page {f : MmuOp} {s t : State} (hf : f ≠ .lkp) (h : execMmu f s = .next t) :
    t.islot.lines = s.islot.lines ∧ t.islot.seg = s.islot.seg ∧ t.islot.page = s.islot.page := by
  cases hm : s.mode with
  | application =>
    rw [execMmu_of_application hm] at h
    obtain rfl := Host.Outcome.next.inj h
    exact ⟨rfl, rfl, rfl⟩
  | kernel =>
    rw [execMmu_of_kernel hm] at h
    obtain rfl := Host.Outcome.next.inj h
    cases f
    case lkp => exact absurd rfl hf
    all_goals exact ⟨rfl, rfl, rfl⟩

/-- Settles O44: `MMU` by `execMmu_keeps_fetched_page`, every other instruction named keeps the whole slot. -/
theorem fetchedPageChangesOnlyByTransfer : Obligations.FetchedPageChangesOnlyByTransfer := by
  intro i s t h hjmp hcal hbrh hret hent hlkp
  cases i
  case jmp b => exact absurd rfl (hjmp b)
  case cal b => exact absurd rfl (hcal b)
  case brh cc b => exact absurd rfl (hbrh cc b)
  case ret => exact absurd rfl hret
  case ent n => exact absurd rfl (hent n)
  case mmu f => exact execMmu_keeps_fetched_page (fun e => hlkp (e ▸ rfl)) h
  case pld p =>
    simp only [exec, execPld] at h
    split at h <;> (obtain rfl := Host.Outcome.next.inj h; simp)
  all_goals
    obtain rfl := Host.Outcome.next.inj h
    simp

/-! ### The ticks of a two-byte instruction, and `MST` -/

theorem State.frozen_of_running {s : State} (h : s.running) : s.frozen = false := by
  obtain ⟨hhalted, hfault⟩ := h
  simp [State.frozen, hhalted, hfault]

/-- A first byte whose opcode has a secondary byte is held by one tick and run with its argument by the next (R93, R94). -/
theorem twoTicks_of_decodeByte {first : Byte} {op : Opcode} {k : Operand} {i : Byte → Instr}
    (hdecode : decodeByte first = some (op, k)) (hsecond : op.hasSecondary = true) (hinstr : ∀ b, op.instr k b = i b) :
    TwoTicks first i := by
  refine ⟨op, k, fun s hrun heu hbyte => ?_, fun s b hrun heu hbyte => ?_⟩
  · simp [step, tick, State.frozen_of_running hrun, hbyte, heu, tickFetch, hdecode, hsecond, State.holdFirst]
  · simp [step, tick, State.frozen_of_running hrun, hbyte, heu, tickAwait, hinstr]

theorem mst_twoTicks (r : Reg) : TwoTicks (0xA8 ||| r.bits.setWidth 8) (.mst r) := by
  have hdecode : decodeByte (0xA8 ||| r.bits.setWidth 8) = some (.mst, r.bits.setWidth 5) := by cases r <;> rfl
  refine twoTicks_of_decodeByte hdecode rfl fun b => ?_
  rw [Opcode.instr, setWidth_3_5_3, Reg.ofBits_bits]

/-- A completed write leaves the resident state with one line of its slot written, the slot dirty and `LINE` advanced. -/
theorem State.memWrite_advance (s : State) (addr v : Byte) :
    (s.memWrite addr v).advance = { s.touch addr with
      dslot := { (s.touch addr).dslot with lines := (s.memWrite addr v).dslot.lines, dirty := true }
      line := s.line + 1, eu := .fetch } := by
  rw [← s.touch_line addr]
  rfl

/-- Settles O38: `memWrite_advance`, and the lines of the slot by `memWrite_dslot_get`. -/
theorem mstStoresThroughDataSlot : Obligations.MstStoresThroughDataSlot := by
  intro r
  refine ⟨mst_twoTicks r, fun b s => ?_⟩
  have hlines := s.clearModifiers.memWrite_dslot_get (s.composedAddr b) (s.x r)
  rw [lineOf_eq_mod] at hlines
  exact ⟨_, rfl, s.clearModifiers.memWrite_advance _ _, (hlines _).trans (if_pos rfl),
    fun l hl => (hlines l).trans (if_neg hl)⟩

end Sys2Proof.Machine
end

section
/-!
PROOFS. Encoding (spec/30_encoding.md): the bytes of an opcode are an interval of its own (R71, R76, R77), decoding and
encoding of a byte and of an instruction agree (R74, R75, R82, R84), and the undecodable byte (R80, 60_exceptions.md R212).
-/
namespace Sys2Proof

/-! ### The bytes of an opcode -/

theorem Opcode.width_le (op : Opcode) : op.width ≤ 5 := by cases op <;> decide

theorem Opcode.two_pow_width_le {v : Nat} (hv : 5 ≤ v) (op : Opcode) : 2 ^ op.width ≤ 2 ^ v :=
  Nat.pow_le_pow_right Nat.two_pos (op.width_le.trans hv)

/-- The operand bits of a pattern are 0 (R71). -/
theorem Opcode.two_pow_width_dvd_pattern (op : Opcode) : 2 ^ op.width ∣ op.pattern.toNat := by cases op <;> decide

theorem Opcode.toNat_mask (op : Opcode) : op.mask.toNat = 2 ^ op.width - 1 := by cases op <;> rfl

theorem Opcode.toNat_and_mask (op : Opcode) (b : Byte) : (b &&& op.mask).toNat = b.toNat % 2 ^ op.width := by
  rw [BitVec.toNat_and, op.toNat_mask, Nat.and_two_pow_sub_one_eq_mod]

/-- An operand that fits fills the zero bits of the pattern, so it adds to it. -/
theorem Opcode.toNat_pattern_or (op : Opcode) {x : Byte} (hx : x.toNat < 2 ^ op.width) :
    (op.pattern ||| x).toNat = op.pattern.toNat + x.toNat := by
  obtain ⟨q, hq⟩ := op.two_pow_width_dvd_pattern
  rw [BitVec.toNat_or, hq, Nat.two_pow_add_eq_or_of_lt hx]

/-- The bytes an opcode accepts are the interval that starts at its pattern and holds one byte for each operand. -/
theorem Opcode.accepts_iff (op : Opcode) (b : Byte) :
    op.accepts b = true ↔ op.pattern.toNat ≤ b.toNat ∧ b.toNat < op.pattern.toNat + 2 ^ op.width := by
  have hpos : 0 < 2 ^ op.width := Nat.two_pow_pos _
  obtain ⟨q, hq⟩ := op.two_pow_width_dvd_pattern
  rw [Opcode.accepts, beq_iff_eq, ← BitVec.toNat_inj, BitVec.toNat_ushiftRight, BitVec.toNat_ushiftRight,
    Nat.shiftRight_eq_div_pow, Nat.shiftRight_eq_div_pow, hq, Nat.mul_div_cancel_left _ hpos, Nat.div_eq_iff hpos,
    Nat.mul_comm q]
  omega

/-- In the declared order each opcode's bytes lie below those of the opcodes after it (R76). -/
theorem opcodes_pairwise :
    opcodes.Pairwise fun op op' => op.pattern.toNat + 2 ^ op.width ≤ op'.pattern.toNat := by decide

/-- No byte is accepted by two opcodes (R77). -/
theorem Opcode.eq_of_accepts {op op' : Opcode} {b : Byte} (h : op.accepts b = true) (h' : op'.accepts b = true) :
    op = op' := by
  have hapart : opcodes.Pairwise fun o o' => ¬(o.accepts b = true ∧ o'.accepts b = true) :=
    opcodes_pairwise.imp fun {o o'} hbelow => by
      rw [Opcode.accepts_iff, Opcode.accepts_iff]
      omega
  have hsymm : Std.Symm fun o o' : Opcode => ¬(o.accepts b = true ∧ o'.accepts b = true) :=
    ⟨fun _ _ hno hboth => hno hboth.symm⟩
  by_contra hne
  exact hapart.forall (mem_opcodes op) (mem_opcodes op') hne ⟨h, h'⟩

/-- Settles O15: `Opcode.eq_of_accepts`. -/
theorem opcodesPrefixFree : Obligations.OpcodesPrefixFree :=
  fun _ _ _ h h' => Opcode.eq_of_accepts (beq_iff_eq.2 h) (beq_iff_eq.2 h')

/-! ### One byte -/

theorem firstMatch_eq_none_iff {ops : List Opcode} {b : Byte} :
    firstMatch ops b = none ↔ ∀ op ∈ ops, op.accepts b = false := by
  induction ops with
  | nil => simp [firstMatch]
  | cons o rest ih => cases ho : o.accepts b <;> simp [firstMatch, ho, ih]

/-- The search finds the one opcode that accepts the byte, if there is one. -/
theorem firstMatch_opcodes_eq_some_iff {b : Byte} {op : Opcode} :
    firstMatch opcodes b = some op ↔ op.accepts b = true := by
  refine ⟨firstMatch_accepts, fun hop => ?_⟩
  cases h : firstMatch opcodes b with
  | none => simp [firstMatch_eq_none_iff.1 h op (mem_opcodes op)] at hop
  | some op' => rw [Opcode.eq_of_accepts (firstMatch_accepts h) hop]

/-- The operand field of a byte of an opcode is what the byte adds to the pattern (R75). -/
theorem Opcode.toNat_operandField {op : Opcode} {b : Byte} {k : Nat} (hk : k < 2 ^ op.width)
    (hb : b.toNat = op.pattern.toNat + k) : ((b &&& op.mask).setWidth 5).toNat = k := by
  obtain ⟨q, hq⟩ := op.two_pow_width_dvd_pattern
  rw [BitVec.toNat_setWidth, op.toNat_and_mask, hb, hq, Nat.mul_add_mod, Nat.mod_eq_of_lt hk,
    Nat.mod_eq_of_lt (hk.trans_le (op.two_pow_width_le le_rfl))]

theorem decodeByte_of_accepts {op : Opcode} {b : Byte} (h : op.accepts b = true) :
    decodeByte b = some (op, (b &&& op.mask).setWidth 5) := by
  rw [decodeByte, firstMatch_opcodes_eq_some_iff.2 h]

theorem decodeByte_eq_none_iff_accepts {b : Byte} : decodeByte b = none ↔ ∀ op : Opcode, op.accepts b = false := by
  constructor
  · intro h op
    by_contra hop
    rw [decodeByte_of_accepts (Bool.not_eq_false _ ▸ hop)] at h
    cases h
  · intro h
    rw [decodeByte, firstMatch_eq_none_iff.2 fun op _ => h op]

/-- A byte decodes to an opcode and an operand exactly when it is their sum and the operand fits (R75). -/
theorem decodeByte_eq_some_iff {b : Byte} {op : Opcode} {k : Operand} :
    decodeByte b = some (op, k) ↔ k.toNat < 2 ^ op.width ∧ b.toNat = op.pattern.toNat + k.toNat := by
  constructor
  · intro h
    obtain ⟨o, ho⟩ : ∃ o : Opcode, o.accepts b = true := by
      by_contra hno
      simp [decodeByte_eq_none_iff_accepts.2 (by simpa using hno)] at h
    rw [decodeByte_of_accepts ho] at h
    obtain ⟨rfl, rfl⟩ := Prod.mk.inj (Option.some.inj h)
    obtain ⟨hlo, hhi⟩ := (o.accepts_iff b).1 ho
    rw [Opcode.toNat_operandField (k := b.toNat - o.pattern.toNat)] <;> omega
  · rintro ⟨hk, hb⟩
    rw [decodeByte_of_accepts ((op.accepts_iff b).2 (by omega)),
      BitVec.eq_of_toNat_eq (Opcode.toNat_operandField hk hb)]

theorem encodeByte_of_lt {op : Opcode} {k : Nat} (hk : k < 2 ^ op.width) :
    encodeByte op k = some (op.pattern ||| (BitVec.ofNat 8 k &&& op.mask)) := if_pos (decide_eq_true hk)

theorem encodeByte_of_le {op : Opcode} {k : Nat} (hk : 2 ^ op.width ≤ k) : encodeByte op k = none :=
  if_neg (by simpa [Opcode.fits] using hk)

/-- Settles O14: `encodeByte_of_lt` and `encodeByte_of_le`; with width 0 only operand 0 is below `2 ^ 0`. -/
theorem encodeFailsOnUnfitOperand : Obligations.EncodeFailsOnUnfitOperand := by
  refine fun op k => ⟨encodeByte_of_lt, encodeByte_of_le, fun hwidth hk => encodeByte_of_le ?_⟩
  rw [hwidth]
  exact Nat.one_le_iff_ne_zero.2 hk

/-- An opcode and an operand encode to a byte exactly when it is their sum and the operand fits (R74). -/
theorem encodeByte_eq_some_iff {op : Opcode} {k : Nat} {b : Byte} :
    encodeByte op k = some b ↔ k < 2 ^ op.width ∧ b.toNat = op.pattern.toNat + k := by
  by_cases hk : k < 2 ^ op.width
  · have hfield : (BitVec.ofNat 8 k &&& op.mask).toNat = k := by
      rw [op.toNat_and_mask, BitVec.toNat_ofNat, Nat.mod_eq_of_lt (hk.trans_le (op.two_pow_width_le (by decide))),
        Nat.mod_eq_of_lt hk]
    rw [encodeByte_of_lt hk, Option.some_inj, ← BitVec.toNat_inj, op.toNat_pattern_or (hfield.symm ▸ hk), hfield]
    simp [hk, eq_comm]
  · simp [encodeByte_of_le (Nat.le_of_not_lt hk), hk]

/-- Decoding and encoding a byte are inverse to each other (R84). -/
theorem decodeByte_eq_some_iff_encodeByte {b : Byte} {op : Opcode} {k : Operand} :
    decodeByte b = some (op, k) ↔ encodeByte op k.toNat = some b := by
  rw [decodeByte_eq_some_iff, encodeByte_eq_some_iff]

/-! ### One instruction -/

@[simp] theorem Reg.bits_ofBits (k : BitVec 3) : (Reg.ofBits k).bits = k := by revert k; decide

@[simp] theorem Cond.bits_ofBits (k : BitVec 3) : (Cond.ofBits k).bits = k := by revert k; decide

@[simp] theorem MmuOp.bits_ofBits (k : BitVec 3) : (MmuOp.ofBits k).bits = k := by revert k; decide

@[simp] theorem Opcode.instr_opcode (op : Opcode) (k : Operand) (b : Byte) : (op.instr k b).opcode = op := by
  cases op <;> rfl

@[simp] theorem Opcode.instr_second (op : Opcode) (k : Operand) (b : Byte) :
    (op.instr k b).second = if op.hasSecondary then some b else none := by
  cases op <;> rfl

/-- An instruction keeps as many bits of its operand as its opcode is wide (R83). -/
theorem Opcode.instr_operand (op : Opcode) (k : Operand) (b : Byte) :
    (op.instr k b).operand = (k.setWidth op.width).setWidth 5 := by
  cases op <;> simp [Opcode.instr, Instr.operand, Opcode.width, BitVec.eq_nil (k.setWidth 0)]

theorem Opcode.instr_operand_of_lt {op : Opcode} {k : Operand} (hk : k.toNat < 2 ^ op.width) (b : Byte) :
    (op.instr k b).operand = k := by
  apply BitVec.eq_of_toNat_eq
  rw [op.instr_operand, BitVec.toNat_setWidth, BitVec.toNat_setWidth, Nat.mod_eq_of_lt hk, Nat.mod_eq_of_lt k.isLt]

/-- The one byte that decodes to the opcode and operand of an instruction is its first byte. -/
theorem Instr.decodeByte_eq_iff (i : Instr) (b : Byte) :
    decodeByte b = some (i.opcode, i.operand) ↔ b = i.opcode.pattern ||| i.operand.setWidth 8 := by
  have hfits : i.operand.toNat < 2 ^ i.opcode.width := of_decide_eq_true i.wf_all
  have hwiden : (i.operand.setWidth 8 : Byte).toNat = i.operand.toNat := BitVec.toNat_setWidth_of_le (by decide)
  rw [decodeByte_eq_some_iff, ← BitVec.toNat_inj, i.opcode.toNat_pattern_or (hwiden.symm ▸ hfits), hwiden]
  exact and_iff_right hfits

/-- The bytes of the instruction that a first byte and a secondary byte stand for are those bytes (R79, R83). -/
theorem encode_instr {b : Byte} {op : Opcode} {k : Operand} (h : decodeByte b = some (op, k)) (b2 : Byte) :
    encode (op.instr k b2) = b :: if op.hasSecondary then [b2] else [] := by
  have hfirst : b = (op.instr k b2).opcode.pattern ||| (op.instr k b2).operand.setWidth 8 := by
    rw [← Instr.decodeByte_eq_iff, op.instr_opcode, Opcode.instr_operand_of_lt (decodeByte_eq_some_iff.1 h).1]
    exact h
  rw [encode, ← hfirst, op.instr_second]
  split <;> rfl

/-- The ways bytes decode to an instruction: a first byte of an opcode, alone or with the byte after it (R79, R82). -/
theorem decode_eq_ok_iff {bytes rest : List Byte} {i : Instr} :
    decode bytes = .ok i rest ↔ ∃ b op k, decodeByte b = some (op, k) ∧
      ((op.hasSecondary = false ∧ bytes = b :: rest ∧ i = op.instr k 0#8) ∨
       (op.hasSecondary = true ∧ ∃ b2, bytes = b :: b2 :: rest ∧ i = op.instr k b2)) := by
  constructor
  · intro h
    unfold decode at h
    split at h
    case h_1 => cases h
    case h_2 b tail =>
      split at h
      case h_1 => cases h
      case h_2 op k hb =>
        refine ⟨b, op, k, hb, ?_⟩
        split at h
        case isFalse hs =>
          cases h
          exact .inl ⟨Bool.eq_false_iff.2 hs, rfl, rfl⟩
        case isTrue hs =>
          split at h
          case h_1 => cases h
          case h_2 b2 _ =>
            cases h
            exact .inr ⟨hs, b2, rfl, rfl⟩
  · rintro ⟨b, op, k, hb, ⟨hs, rfl, rfl⟩ | ⟨hs, b2, rfl, rfl⟩⟩ <;> simp [decode, hb, hs]

theorem decode_encode_append (i : Instr) (rest : List Byte) : decode (encode i ++ rest) = .ok i rest := by
  refine decode_eq_ok_iff.2 ⟨_, _, _, (i.decodeByte_eq_iff _).2 rfl, ?_⟩
  have hsecond := i.second_isSome
  have hinstr := i.rebuild
  cases h : i.second with
  | none =>
    rw [h] at hsecond hinstr
    exact .inl ⟨hsecond.symm, by rw [encode, h]; rfl, hinstr.symm⟩
  | some b2 =>
    rw [h] at hsecond hinstr
    exact .inr ⟨hsecond.symm, b2, by rw [encode, h]; rfl, hinstr.symm⟩

theorem eq_encode_append_of_decode {bytes rest : List Byte} {i : Instr} (h : decode bytes = .ok i rest) :
    bytes = encode i ++ rest := by
  obtain ⟨b, op, k, hb, ⟨hs, rfl, rfl⟩ | ⟨hs, b2, rfl, rfl⟩⟩ := decode_eq_ok_iff.1 h <;> simp [encode_instr hb, hs]

/-- Settles O13: `decode_encode_append` and its converse for instructions, `decodeByte_eq_some_iff_encodeByte` both ways for
one byte. -/
theorem decodeEncodeAgree : Obligations.DecodeEncodeAgree := by
  refine ⟨decode_encode_append, fun _ _ _ => eq_encode_append_of_decode, fun op k b h => ?_,
    fun _ _ _ => decodeByte_eq_some_iff_encodeByte.1⟩
  have hk : k < 2 ^ 5 := (encodeByte_eq_some_iff.1 h).1.trans_le (op.two_pow_width_le le_rfl)
  rw [decodeByte_eq_some_iff_encodeByte, BitVec.toNat_ofNat, Nat.mod_eq_of_lt hk]
  exact h

/-- Settles O12: the decoder evaluates to the instruction of each word. -/
theorem specWordsDecode : Obligations.SpecWordsDecode :=
  ⟨rfl, rfl, rfl, rfl, rfl, rfl, rfl, rfl⟩

/-! ### The undecodable bytes -/

/-- Between the intervals of the opcodes stand the bytes 0x08 to 0x0F and 0xB8 to 0xBF (R80). -/
theorem decodeByte_eq_none_iff (b : Byte) :
    decodeByte b = none ↔ (0x08 ≤ b.toNat ∧ b.toNat ≤ 0x0F) ∨ (0xB8 ≤ b.toNat ∧ b.toNat ≤ 0xBF) := by
  have houtside : decodeByte b = none ↔
      ∀ op ∈ opcodes, ¬(op.pattern.toNat ≤ b.toNat ∧ b.toNat < op.pattern.toNat + 2 ^ op.width) := by
    simp only [decodeByte_eq_none_iff_accepts, ← Opcode.accepts_iff, Bool.not_eq_true, mem_opcodes, true_imp_iff]
  simp only [houtside, opcodes, List.cons_append, List.nil_append, List.forall_mem_cons, List.not_mem_nil,
    false_imp_iff, implies_true, and_true, Opcode.pattern, Opcode.width, BitVec.reduceToNat, Nat.reducePow]
  omega

end Sys2Proof

namespace Sys2Proof.Machine

theorem step_of_undecodable {s : State} {b : Byte} (hrun : s.running) (heu : s.eu = .fetch)
    (hbyte : s.fetchByte = some b) (hb : decodeByte b = none) : step s = .next (s.raise .undecodableInstruction) := by
  simp [step, tick, State.frozen_of_running hrun, hbyte, heu, tickFetch, hb]

theorem execMmu_fault {f : MmuOp} {s t : State} (h : execMmu f s = .next t) :
    t.fault = s.fault ∨
      (f = .lkp ∧ s.mode = .kernel ∧ syscallIn s.cfg.syscallTable s.a = none ∧ t = s.raise .unmappedSyscall) := by
  cases hm : s.mode with
  | application =>
    rw [execMmu_of_application hm] at h
    obtain rfl := Host.Outcome.next.inj h
    exact .inl rfl
  | kernel =>
    rw [execMmu_of_kernel hm] at h
    obtain rfl := Host.Outcome.next.inj h
    cases f
    case lkp =>
      cases hc : syscallIn s.cfg.syscallTable s.a with
      | none => exact .inr ⟨rfl, rfl, rfl, mmuLkp_of_none hc⟩
      | some e => exact .inl (by simp only [mmuLkp_of_some hc])
    all_goals exact .inl rfl

theorem execEnt_fault {n : SysNum} {s t : State} (h : execEnt n s = .next t) :
    t.fault = s.fault ∨ (s.mode = .kernel ∧ t = s.raise .nestedKernelCall) ∨
      (s.mode = .application ∧ s.cfg.kernelEntry = none ∧ t = s.raise .kernelEntryUnconfigured) := by
  cases hm : s.mode with
  | kernel =>
    rw [execEnt_of_kernel hm] at h
    exact .inr (.inl ⟨rfl, (Host.Outcome.next.inj h).symm⟩)
  | application =>
    cases hc : s.cfg.kernelEntry with
    | none =>
      rw [execEnt_of_unconfigured hm hc] at h
      exact .inr (.inr ⟨rfl, rfl, (Host.Outcome.next.inj h).symm⟩)
    | some e =>
      rw [execEnt_of_entry hm hc, State.enterKernel_eq] at h
      obtain rfl := Host.Outcome.next.inj h
      exact .inl rfl

/-- What an instruction can do to `FAULT`: keep it, or raise one of three codes and change nothing else (60_exceptions.md
R210, R211). -/
theorem exec_fault {i : Instr} {s t : State} (h : exec i s = .next t) :
    t.fault = s.fault ∨
      (i = .mmu .lkp ∧ s.mode = .kernel ∧ syscallIn s.cfg.syscallTable s.a = none ∧ t = s.raise .unmappedSyscall) ∨
      (∃ n, i = .ent n) ∧ ((s.mode = .kernel ∧ t = s.raise .nestedKernelCall) ∨
        (s.mode = .application ∧ s.cfg.kernelEntry = none ∧ t = s.raise .kernelEntryUnconfigured)) := by
  cases i
  case mmu f => exact (execMmu_fault h).imp_right fun ⟨hf, hraise⟩ => .inl ⟨hf ▸ rfl, hraise⟩
  case ent n => exact (execEnt_fault h).imp_right fun hraise => .inr ⟨⟨n, rfl⟩, hraise⟩
  case brh cc b =>
    simp only [exec, execBrh] at h
    split at h <;> (obtain rfl := Host.Outcome.next.inj h; simp)
  case pld p =>
    simp only [exec, execPld] at h
    split at h <;> (obtain rfl := Host.Outcome.next.inj h; simp)
  all_goals
    obtain rfl := Host.Outcome.next.inj h
    simp

/-- No instruction raises `UndecodableInstruction`: only the tick does (60_exceptions.md R211, R212). -/
theorem exec_fault_ne_undecodable {i : Instr} {s t : State} (hnone : s.fault = none) (h : exec i s = .next t) :
    t.fault ≠ some .undecodableInstruction := by
  rcases exec_fault h with hkept | ⟨-, -, -, rfl⟩ | ⟨-, ⟨-, rfl⟩ | ⟨-, -, rfl⟩⟩
  · simp [hkept, hnone]
  all_goals simp

/-- Settles O7: `decodeByte_eq_none_iff` names the bytes; of the ways a step ends only the undecodable first byte raises the
fault, for an instruction never does. -/
theorem reservedByteFatalOnlyInFetch : Obligations.ReservedByteFatalOnlyInFetch := by
  refine ⟨decodeByte_eq_none_iff, fun s b hrun heu hbyte hb =>
    step_of_undecodable hrun heu hbyte ((decodeByte_eq_none_iff b).2 hb), fun s t hrun hstep hfault => ?_⟩
  obtain ⟨-, hnone⟩ := hrun
  have hexec {i : Instr} (h : exec i s = .next t) : False := exec_fault_ne_undecodable hnone h hfault
  rcases step_cases hstep with ⟨-, rfl⟩ | ⟨-, -, rfl⟩ | ⟨b, -, hbyte, hcase⟩
  · simp [hnone] at hfault
  · simp [hnone] at hfault
  rcases hcase with ⟨heu, hb, -⟩ | ⟨op, k, -, -, -, rfl⟩ | ⟨op, k, -, -, -, h⟩ | ⟨op, k, -, h⟩
  · exact ⟨heu, b, hbyte, (decodeByte_eq_none_iff b).1 hb⟩
  · simp [hnone] at hfault
  · exact (hexec h).elim
  · exact (hexec h).elim

end Sys2Proof.Machine
end

section
/-!
PROOFS. The tick (spec/40_cycle_and_nop.md): one equation for each of its ways (R90 to R94), the clean halt and what never
halts (R92, 60_exceptions.md R216), a step against the decoder (R98), and `NOP` (R100).
-/
namespace Sys2Proof.Machine

/-! ### The statement at `LINE` -/

theorem State.fetchByte_of_get {s : State} {b : Byte} (hline : s.line ≤ 31) (hget : s.islot.lines.get s.line = some b) :
    s.fetchByte = some b := (if_pos hline).trans hget

theorem State.fetchByte_eq_none_iff {s : State} :
    s.fetchByte = none ↔ 31 < s.line ∨ s.islot.lines.get s.line = none := by
  rw [State.fetchByte, ite_eq_right_iff, ← Nat.not_le, Decidable.imp_iff_not_or]

/-! ### The ways of a tick -/

theorem State.frozen_iff {s : State} : s.frozen = true ↔ s.halted = true ∨ s.fault ≠ none := by
  rw [State.frozen, Bool.or_eq_true, Option.isSome_iff_ne_none]

theorem step_of_frozen {s : State} (h : s.frozen = true) : step s = .next s := if_pos h

theorem step_of_absent {s : State} (hrun : s.running) (habsent : s.fetchByte = none) : step s = .next s.halt := by
  simp [step, tick, State.frozen_of_running hrun, habsent]

theorem step_of_first_of_two {s : State} {b : Byte} {op : Opcode} {k : Operand} (hrun : s.running) (heu : s.eu = .fetch)
    (hbyte : s.fetchByte = some b) (hdecode : decodeByte b = some (op, k)) (hsecond : op.hasSecondary = true) :
    step s = .next (s.holdFirst op k) := by
  simp [step, tick, State.frozen_of_running hrun, hbyte, heu, tickFetch, hdecode, hsecond]

theorem step_of_await {s : State} {b : Byte} {op : Opcode} {k : Operand} (hrun : s.running) (heu : s.eu = .await op k)
    (hbyte : s.fetchByte = some b) : step s = exec (op.instr k b) s := by
  simp [step, tick, State.frozen_of_running hrun, hbyte, heu, tickAwait]

/-- A byte whose opcode has no secondary byte is run by the tick that fetches it (R93, R98). -/
theorem oneTick_of_decodeByte {first : Byte} {op : Opcode} {k : Operand} {i : Instr}
    (hdecode : decodeByte first = some (op, k)) (hsecond : op.hasSecondary = false) (hinstr : op.instr k 0#8 = i) :
    OneTick first i := by
  intro s hrun heu hbyte
  simp [step, tick, State.frozen_of_running hrun, hbyte, heu, tickFetch, hdecode, hsecond, hinstr]

/-- Settles O5: `step_of_frozen`. -/
theorem frozenTickDoesNothing : Obligations.FrozenTickDoesNothing :=
  fun _ h => step_of_frozen (State.frozen_iff.2 h)

/-! ### The clean halt -/

@[simp] theorem mmuLkp_halted (s : State) : (mmuLkp s).halted = s.halted := by
  cases h : syscallIn s.cfg.syscallTable s.a with
  | none => rw [mmuLkp_of_none h, State.raise_halted]
  | some e => rw [mmuLkp_of_some h]

@[simp] theorem State.enterKernel_halted (s : State) (e : EntryPoint) (n : SysNum) :
    (s.enterKernel e n).halted = s.halted := by rw [State.enterKernel_eq]

theorem execMmu_halted {f : MmuOp} {s t : State} (h : execMmu f s = .next t) : t.halted = s.halted := by
  cases hm : s.mode with
  | application =>
    rw [execMmu_of_application hm] at h
    obtain rfl := Host.Outcome.next.inj h
    rfl
  | kernel =>
    rw [execMmu_of_kernel hm] at h
    obtain rfl := Host.Outcome.next.inj h
    cases f
    case lkp => exact mmuLkp_halted s
    all_goals rfl

/-- The ways `ENT` ends: the two fatal conditions, and the trap (R190, 60_exceptions.md R214, R215). -/
theorem execEnt_cases {n : SysNum} {s t : State} (h : execEnt n s = .next t) :
    (s.mode = .kernel ∧ t = s.raise .nestedKernelCall) ∨
    (s.mode = .application ∧ s.cfg.kernelEntry = none ∧ t = s.raise .kernelEntryUnconfigured) ∨
    ∃ e, s.mode = .application ∧ s.cfg.kernelEntry = some e ∧ t = s.enterKernel e n := by
  cases hm : s.mode with
  | kernel =>
    rw [execEnt_of_kernel hm] at h
    exact .inl ⟨rfl, (Host.Outcome.next.inj h).symm⟩
  | application =>
    cases hc : s.cfg.kernelEntry with
    | none =>
      rw [execEnt_of_unconfigured hm hc] at h
      exact .inr (.inl ⟨rfl, rfl, (Host.Outcome.next.inj h).symm⟩)
    | some e =>
      rw [execEnt_of_entry hm hc] at h
      exact .inr (.inr ⟨e, rfl, rfl, (Host.Outcome.next.inj h).symm⟩)

theorem execEnt_halted {n : SysNum} {s t : State} (h : execEnt n s = .next t) : t.halted = s.halted := by
  rcases execEnt_cases h with ⟨-, rfl⟩ | ⟨-, -, rfl⟩ | ⟨e, -, -, rfl⟩
  · rfl
  · rfl
  · exact s.enterKernel_halted e n

/-- No instruction halts the machine or sets it running: only the tick at an absent line halts (60_exceptions.md R216). -/
theorem exec_halted {i : Instr} {s t : State} (h : exec i s = .next t) : t.halted = s.halted := by
  cases i
  case mmu f => exact execMmu_halted h
  case ent n => exact execEnt_halted h
  case brh | pld =>
    simp only [exec, execBrh, execPld] at h
    split at h <;> (obtain rfl := Host.Outcome.next.inj h; simp)
  all_goals
    obtain rfl := Host.Outcome.next.inj h
    simp

/-- Settles O6: `step_of_absent`; of the other ways a running machine steps none sets `HALTED`, an instruction by
`exec_halted`. -/
theorem absentLineHaltsCleanly : Obligations.AbsentLineHaltsCleanly := by
  intro s hrun
  refine ⟨fun habsent => step_of_absent hrun (State.fetchByte_eq_none_iff.2 habsent), fun t hstep hhalt => ?_⟩
  have hne : t.halted ≠ s.halted := by simp [hhalt, hrun.1]
  rcases step_cases hstep with ⟨-, rfl⟩ | ⟨-, habsent, -⟩ | ⟨b, -, -, hcase⟩
  · exact absurd rfl hne
  · exact State.fetchByte_eq_none_iff.1 habsent
  rcases hcase with ⟨-, -, rfl⟩ | ⟨op, k, -, -, -, rfl⟩ | ⟨op, k, -, -, -, h⟩ | ⟨op, k, -, h⟩
  · exact absurd rfl hne
  · exact absurd rfl hne
  · exact absurd (exec_halted h) hne
  · exact absurd (exec_halted h) hne

/-! ### `Fetch` and `Await` -/

/-- Completing a two-byte instruction returns to `Fetch`: none of the eight ends in a fatal condition (R94). -/
theorem exec_eu_of_hasSecondary {i : Instr} {s t : State} (hsecond : i.opcode.hasSecondary = true)
    (h : exec i s = .next t) : t.eu = .fetch := by
  cases i
  case brh cc b =>
    simp only [exec, execBrh] at h
    split at h <;> (obtain rfl := Host.Outcome.next.inj h; rfl)
  case jmp | cal | ppi | cpi | imm | mld | mst =>
    obtain rfl := Host.Outcome.next.inj h
    rfl
  all_goals cases hsecond

/-- Settles O9: one lemma for each way of the tick, and `exec_eu_of_hasSecondary` for the return to `Fetch`. -/
theorem tickDispatchesOnEuState : Obligations.TickDispatchesOnEuState := by
  intro s b hrun hline hget
  have hbyte : s.fetchByte = some b := State.fetchByte_of_get hline hget
  refine ⟨fun heu => ⟨step_of_undecodable hrun heu hbyte, fun op k hdecode => ⟨?_, fun hsecond => ?_⟩⟩, fun op k heu => ?_⟩
  · exact step_of_first_of_two hrun heu hbyte hdecode
  · exact oneTick_of_decodeByte hdecode hsecond rfl s hrun heu hbyte
  · have hstep := step_of_await hrun heu hbyte
    refine ⟨hstep, fun hsecond t ht => exec_eu_of_hasSecondary (i := op.instr k b) ?_ (hstep ▸ ht)⟩
    rwa [op.instr_opcode]

/-- Settles O10: `decode_eq_ok_iff` gives the opcode of the first byte; `oneTick_of_decodeByte` where it stands alone, and
`twoTicks_of_decodeByte` where a byte follows. -/
theorem stepRunsDecodedInstruction : Obligations.StepRunsDecodedInstruction := by
  intro s b i hrun heu hline hget
  have hbyte : s.fetchByte = some b := State.fetchByte_of_get hline hget
  refine ⟨fun hdecode => ?_, fun b2 hline2 hget2 hdecode => ?_⟩
  · obtain ⟨_, op, k, hb, ⟨hsecond, ⟨⟩, rfl⟩ | ⟨-, _, ⟨⟩, -⟩⟩ := decode_eq_ok_iff.1 hdecode
    exact oneTick_of_decodeByte hb hsecond rfl s hrun heu hbyte
  · obtain ⟨_, op, k, hb, ⟨-, ⟨⟩, -⟩ | ⟨hsecond, _, ⟨⟩, rfl⟩⟩ := decode_eq_ok_iff.1 hdecode
    obtain ⟨op', k', hfirst, hnext⟩ := twoTicks_of_decodeByte hb hsecond fun _ => rfl
    exact ⟨op', k', hfirst s hrun heu hbyte, hnext _ b2 hrun rfl (State.fetchByte_of_get hline2 hget2)⟩

/-! ### `NOP` -/

/-- Settles O19: the byte 0x00 decodes to `NOP`, whose meaning is `advance`. -/
theorem nopOnlyAdvances : Obligations.NopOnlyAdvances :=
  ⟨oneTick_of_decodeByte (op := .nop) (k := 0) rfl rfl rfl, fun _ => rfl⟩

end Sys2Proof.Machine
end

section
/-!
PROOFS. Data movement (spec/41_data_movement.md): the ticks of an instruction with a 3-bit operand (30_encoding.md R74,
R83), a completed register write (10_state.md R12, R14), and `IMM`, `AST` and `RST` (R110 to R112).
-/
namespace Sys2Proof.Machine

/-! ### The first byte of an instruction with a 3-bit operand -/

theorem decodeByte_of_operand_bits {i : Instr} {k : BitVec 3} (hoperand : i.operand = k.setWidth 5) :
    decodeByte (i.opcode.pattern ||| k.setWidth 8) = some (i.opcode, k.setWidth 5) := by
  rw [← hoperand, i.decodeByte_eq_iff, hoperand, BitVec.setWidth_setWidth (by decide)]

/-- A one-byte instruction with a 3-bit operand is run by the tick that fetches its pattern with the operand (R93). -/
theorem oneTick_of_operand_bits {i : Instr} {k : BitVec 3} (hoperand : i.operand = k.setWidth 5) (hsecond : i.second = none) :
    OneTick (i.opcode.pattern ||| k.setWidth 8) i := by
  refine oneTick_of_decodeByte (decodeByte_of_operand_bits hoperand) ?_ ?_
  · rw [← i.second_isSome, hsecond, Option.isSome_none]
  · have hrebuild := i.rebuild
    rwa [hoperand, hsecond] at hrebuild

/-- A two-byte instruction with a 3-bit operand is held by the tick that fetches its pattern with the operand, and run with
its argument by the next (R93, R94). -/
theorem twoTicks_of_operand_bits {i : Byte → Instr} {op : Opcode} {k : BitVec 3} (hopcode : ∀ b, (i b).opcode = op)
    (hoperand : ∀ b, (i b).operand = k.setWidth 5) (hsecond : ∀ b, (i b).second = some b) :
    TwoTicks (op.pattern ||| k.setWidth 8) i := by
  have hdecode := decodeByte_of_operand_bits (hoperand 0)
  rw [hopcode] at hdecode
  refine twoTicks_of_decodeByte hdecode ?_ fun b => ?_
  · rw [← hopcode 0, ← Instr.second_isSome, hsecond, Option.isSome_some]
  · have hrebuild := (i b).rebuild
    rwa [hopcode, hoperand, hsecond] at hrebuild

/-! ### A completed register write -/

@[simp] theorem State.x_advance (s : State) (r : Reg) : s.advance.x r = s.x r := by cases r <;> rfl

/-- A register written and the instruction completed by advancing: the accumulator with its flags, a general register by
`x_writeReg` and `writeReg_frame`. -/
theorem State.regWritten_writeReg_advance (s : State) (r : Reg) (V : Int) :
    RegWritten r V s (s.writeReg r V).advance := by
  refine ⟨?_, fun hr => ⟨?_, fun q hq => ?_, congrArg State.advance (s.writeReg_frame V hr)⟩⟩
  · rintro rfl
    rfl
  · rw [State.x_advance, State.x_writeReg, if_pos rfl]
  · rw [State.x_advance, State.x_writeReg, if_neg hq]

theorem State.regWritten_setReg_advance (s : State) (r : Reg) (v : Byte) :
    RegWritten r v.toNat s (s.setReg r v).advance :=
  s.regWritten_writeReg_advance r v.toNat

/-! ### `IMM`, `AST` and `RST` -/

/-- Settles O20: the ticks by `twoTicks_of_operand_bits`, the write by `regWritten_setReg_advance`. -/
theorem immLoadsSecondaryByte : Obligations.ImmLoadsSecondaryByte :=
  fun r => ⟨twoTicks_of_operand_bits (op := .imm) (fun _ => rfl) (fun _ => rfl) fun _ => rfl,
    fun b s => ⟨_, rfl, s.regWritten_setReg_advance r b⟩⟩

/-- Settles O21: the ticks by `oneTick_of_operand_bits`, both writes by `regWritten_setReg_advance`. -/
theorem accumulatorExchangesWithRegister : Obligations.AccumulatorExchangesWithRegister :=
  fun r => ⟨oneTick_of_operand_bits (i := .ast r) rfl rfl, oneTick_of_operand_bits (i := .rst r) rfl rfl,
    fun s => ⟨⟨_, rfl, s.regWritten_setReg_advance .acc (s.x r)⟩, ⟨_, rfl, s.regWritten_setReg_advance r s.a⟩⟩⟩

end Sys2Proof.Machine
end

section
/-!
PROOFS. ALU (spec/42_alu.md): the arithmetic, bitwise and in-place instructions as completed register writes (R121 to R129),
and the propagate-carry modifier, which `CRY` sets and only `ADD` clears (R130, 10_state.md R17).
-/
namespace Sys2Proof.Machine

/-! ### The propagate-carry modifier -/

@[simp] theorem mmuLkp_cmod (s : State) : (mmuLkp s).cmod = s.cmod := by
  cases h : syscallIn s.cfg.syscallTable s.a with
  | none => rw [mmuLkp_of_none h, State.raise_cmod]
  | some e => rw [mmuLkp_of_some h]

@[simp] theorem State.enterKernel_cmod (s : State) (e : EntryPoint) (n : SysNum) :
    (s.enterKernel e n).cmod = s.cmod := by rw [State.enterKernel_eq]

theorem execMmu_cmod {f : MmuOp} {s t : State} (h : execMmu f s = .next t) : t.cmod = s.cmod := by
  cases hm : s.mode with
  | application =>
    rw [execMmu_of_application hm] at h
    obtain rfl := Host.Outcome.next.inj h
    rfl
  | kernel =>
    rw [execMmu_of_kernel hm] at h
    obtain rfl := Host.Outcome.next.inj h
    cases f
    case lkp => exact mmuLkp_cmod s
    all_goals rfl

theorem execEnt_cmod {n : SysNum} {s t : State} (h : execEnt n s = .next t) : t.cmod = s.cmod := by
  rcases execEnt_cases h with ⟨-, rfl⟩ | ⟨-, -, rfl⟩ | ⟨e, -, -, rfl⟩
  · rfl
  · rfl
  · exact s.enterKernel_cmod e n

/-- Every instruction but `ADD` and `CRY` keeps the propagate-carry modifier (10_state.md R17, R130). -/
theorem exec_keeps_cmod {i : Instr} {s t : State} (hadd : ∀ r, i ≠ .add r) (hcry : i ≠ .cry) (h : exec i s = .next t) :
    t.cmod = s.cmod := by
  cases i
  case add r => exact absurd rfl (hadd r)
  case cry => exact absurd rfl hcry
  case mmu f => exact execMmu_cmod h
  case ent n => exact execEnt_cmod h
  case brh | pld =>
    simp only [exec, execBrh, execPld] at h
    split at h <;> (obtain rfl := Host.Outcome.next.inj h; simp)
  all_goals
    obtain rfl := Host.Outcome.next.inj h
    simp

/-- Settles O26: the byte 0x01 decodes to `CRY`, which sets the modifier; of the others `exec_keeps_cmod`. -/
theorem crySetsCarryModifier : Obligations.CrySetsCarryModifier := by
  refine ⟨oneTick_of_decodeByte (op := .cry) (k := 0) rfl rfl rfl, fun _ => rfl, fun i s t hadd hset h => ?_⟩
  by_cases hcry : i = .cry
  · subst hcry
    obtain rfl := Host.Outcome.next.inj h
    rfl
  · rw [exec_keeps_cmod hadd hcry h, hset]

/-! ### Results in the accumulator -/

/-- What `ADD` adds for the modifier: 1 when it is set, else 0 (R121). -/
theorem coe_toNat_bool_eq_ite (b : Bool) : (b.toNat : Int) = if b then 1 else 0 := by cases b <;> rfl

/-- Settles O22: the write is `regWritten_writeReg_advance` from the state with the modifier cleared. -/
theorem addUsesAndClearsCarryModifier : Obligations.AddUsesAndClearsCarryModifier := by
  refine fun r => ⟨oneTick_of_operand_bits (i := .add r) rfl rfl, fun s => ⟨_, rfl, ?_⟩⟩
  rw [← coe_toNat_bool_eq_ite]
  exact State.regWritten_writeReg_advance { s with cmod := false } .acc _

/-- Settles O23: the difference goes to the accumulator by `regWritten_writeReg_advance`. -/
theorem subSetsBorrow : Obligations.SubSetsBorrow :=
  fun r => ⟨oneTick_of_operand_bits (i := .sub r) rfl rfl, fun s => ⟨_, rfl, s.regWritten_writeReg_advance .acc _⟩⟩

/-- Settles O24: three bytes go to the accumulator by `regWritten_setReg_advance`. -/
theorem bitwiseOperationsWriteAccumulator : Obligations.BitwiseOperationsWriteAccumulator :=
  fun r => ⟨oneTick_of_operand_bits (i := .and r) rfl rfl, oneTick_of_operand_bits (i := .ior r) rfl rfl,
    oneTick_of_operand_bits (i := .xor r) rfl rfl, fun s =>
      ⟨⟨_, rfl, s.regWritten_setReg_advance .acc (s.a &&& s.x r)⟩, ⟨_, rfl, s.regWritten_setReg_advance .acc (s.a ||| s.x r)⟩,
        ⟨_, rfl, s.regWritten_setReg_advance .acc (s.a ^^^ s.x r)⟩⟩⟩

/-! ### Results in place -/

/-- A logical shift right by one halves the byte (R129). -/
theorem toNat_ushiftRight_one (v : Byte) : ((v >>> 1).toNat : Int) = (v.toNat / 2 : Int) := by
  rw [BitVec.toNat_ushiftRight, Nat.shiftRight_one, Int.natCast_ediv, Nat.cast_ofNat]

theorem State.regWritten_rsh (s : State) (r : Reg) :
    RegWritten r ((s.x r).toNat / 2 : Int) s (s.setReg r (s.x r >>> 1)).advance := by
  rw [← toNat_ushiftRight_one]
  exact s.regWritten_setReg_advance r _

/-- Settles O25: `INC`, `DEC` and `NEG` by `regWritten_writeReg_advance`, `RSH` by `regWritten_rsh`. -/
theorem unaryOperationsInPlace : Obligations.UnaryOperationsInPlace :=
  fun r => ⟨oneTick_of_operand_bits (i := .inc r) rfl rfl, oneTick_of_operand_bits (i := .dec r) rfl rfl,
    oneTick_of_operand_bits (i := .neg r) rfl rfl, oneTick_of_operand_bits (i := .rsh r) rfl rfl, fun s =>
      ⟨⟨_, rfl, s.regWritten_writeReg_advance r _⟩, ⟨_, rfl, s.regWritten_writeReg_advance r _⟩,
        ⟨_, rfl, s.regWritten_writeReg_advance r _⟩, ⟨_, rfl, s.regWritten_rsh r⟩⟩⟩

end Sys2Proof.Machine
end

section
/-!
PROOFS. Stacks (spec/43_stacks.md): the pushes and the pops of both stacks (R140 to R145), and what a pop leaves of a
non-empty and of an empty stack (10_state.md R19).
-/
namespace Sys2Proof.Machine

/-! ### Pushes -/

/-- Settles O27: the ticks by `oneTick_of_operand_bits` and `twoTicks_of_decodeByte`; each meaning is its stack's push and
`advance`. -/
theorem pushInstructions : Obligations.PushInstructions :=
  ⟨fun r => ⟨oneTick_of_operand_bits (i := .pps r) rfl rfl, oneTick_of_operand_bits (i := .cps r) rfl rfl,
      fun _ => ⟨rfl, rfl⟩⟩,
    twoTicks_of_decodeByte (op := .ppi) (k := 0) rfl rfl fun _ => rfl,
    twoTicks_of_decodeByte (op := .cpi) (k := 0) rfl rfl fun _ => rfl, fun _ _ => ⟨rfl, rfl⟩⟩

/-! ### What a pop leaves -/

theorem State.dropP_of_cons {s : State} {v : Byte} {rest : List Byte} (h : s.pstack = v :: rest) :
    s.dropP = { s with pstack := rest } := by rw [State.dropP, h, List.tail_cons]

theorem State.dropC_of_cons {s : State} {v : Byte} {rest : List Byte} (h : s.cstack = v :: rest) :
    s.dropC = { s with cstack := rest } := by rw [State.dropC, h, List.tail_cons]

/-- An empty stack stays empty (R19). -/
theorem State.dropP_of_nil {s : State} (h : s.pstack = []) : s.dropP = s := by rw [State.dropP, h, List.tail_nil, ← h]

theorem State.dropC_of_nil {s : State} (h : s.cstack = []) : s.dropC = s := by rw [State.dropC, h, List.tail_nil, ← h]

/-! ### Pops -/

theorem exec_ppl_of_cons {s : State} {v : Byte} {rest : List Byte} (r : Reg) (h : s.pstack = v :: rest) :
    exec (.ppl r) s = .next (State.setReg { s with pstack := rest } r v).advance := by
  rw [exec, execPpl, State.dropP_of_cons h, h, topOf, List.headD_cons]

theorem exec_ppl_of_nil {s : State} (r : Reg) (h : s.pstack = []) : exec (.ppl r) s = .next (s.setReg r 0#8).advance := by
  rw [exec, execPpl, State.dropP_of_nil h, h, topOf, List.headD_nil]

theorem exec_cpl_of_cons {s : State} {v : Byte} {rest : List Byte} (r : Reg) (h : s.cstack = v :: rest) :
    exec (.cpl r) s = .next (State.setReg { s with cstack := rest } r v).advance := by
  rw [exec, execCpl, State.dropC_of_cons h, h, topOf, List.headD_cons]

theorem exec_cpl_of_nil {s : State} (r : Reg) (h : s.cstack = []) : exec (.cpl r) s = .next (s.setReg r 0#8).advance := by
  rw [exec, execCpl, State.dropC_of_nil h, h, topOf, List.headD_nil]

/-- Settles O28: on either stack one equation for a non-empty and one for an empty stack, and the write by
`regWritten_setReg_advance`. -/
theorem popInstructions : Obligations.PopInstructions := by
  refine fun r => ⟨oneTick_of_operand_bits (i := .ppl r) rfl rfl, oneTick_of_operand_bits (i := .cpl r) rfl rfl,
    fun s => ⟨fun v rest h => ?_, fun h => ?_, fun v rest h => ?_, fun h => ?_⟩⟩
  · exact ⟨_, exec_ppl_of_cons r h, State.regWritten_setReg_advance _ r v⟩
  · exact ⟨_, exec_ppl_of_nil r h, s.regWritten_setReg_advance r 0⟩
  · exact ⟨_, exec_cpl_of_cons r h, State.regWritten_setReg_advance _ r v⟩
  · exact ⟨_, exec_cpl_of_nil r h, s.regWritten_setReg_advance r 0⟩

end Sys2Proof.Machine
end

section
/-!
PROOFS. Control transfer (spec/44_control_transfer.md): which instructions keep the address modifiers (R150, R152, R153),
a transfer with its address spelled out (R151), and the transferring instructions (R154 to R157).
-/
namespace Sys2Proof.Machine

/-! ### The address modifiers -/

theorem mmuLkp_keeps_modifiers (s : State) : (mmuLkp s).ptr = s.ptr ∧ (mmuLkp s).fwdb = s.fwdb := by
  cases h : syscallIn s.cfg.syscallTable s.a with
  | none =>
    rw [mmuLkp_of_none h]
    exact ⟨rfl, rfl⟩
  | some e =>
    rw [mmuLkp_of_some h]
    exact ⟨rfl, rfl⟩

theorem execMmu_keeps_modifiers {f : MmuOp} {s t : State} (h : execMmu f s = .next t) :
    t.ptr = s.ptr ∧ t.fwdb = s.fwdb := by
  cases hm : s.mode with
  | application =>
    rw [execMmu_of_application hm] at h
    obtain rfl := Host.Outcome.next.inj h
    exact ⟨rfl, rfl⟩
  | kernel =>
    rw [execMmu_of_kernel hm] at h
    obtain rfl := Host.Outcome.next.inj h
    cases f
    case lkp => exact mmuLkp_keeps_modifiers s
    all_goals exact ⟨rfl, rfl⟩

theorem execEnt_keeps_modifiers {n : SysNum} {s t : State} (h : execEnt n s = .next t) :
    t.ptr = s.ptr ∧ t.fwdb = s.fwdb := by
  rcases execEnt_cases h with ⟨-, rfl⟩ | ⟨-, -, rfl⟩ | ⟨e, -, -, rfl⟩
  · exact ⟨rfl, rfl⟩
  · exact ⟨rfl, rfl⟩
  · rw [State.enterKernel_eq]
    exact ⟨rfl, rfl⟩

/-- An instruction that forms no address keeps each modifier, its one setter apart (R152, R153, 10_state.md R18). -/
theorem exec_keeps_modifiers {i : Instr} {s t : State} (hjmp : ∀ b, i ≠ .jmp b) (hcal : ∀ b, i ≠ .cal b)
    (hbrh : ∀ cc b, i ≠ .brh cc b) (hmld : ∀ r b, i ≠ .mld r b) (hmst : ∀ r b, i ≠ .mst r b) (h : exec i s = .next t) :
    ((∀ r, i ≠ .poi r) → t.ptr = s.ptr) ∧ (i ≠ .fwd → t.fwdb = s.fwdb) := by
  cases i
  case jmp b => exact absurd rfl (hjmp b)
  case cal b => exact absurd rfl (hcal b)
  case brh cc b => exact absurd rfl (hbrh cc b)
  case mld r b => exact absurd rfl (hmld r b)
  case mst r b => exact absurd rfl (hmst r b)
  case poi r =>
    obtain rfl := Host.Outcome.next.inj h
    exact ⟨fun hpoi => absurd rfl (hpoi r), fun _ => rfl⟩
  case fwd =>
    obtain rfl := Host.Outcome.next.inj h
    exact ⟨fun _ => rfl, fun hfwd => absurd rfl hfwd⟩
  case mmu f =>
    obtain ⟨hptr, hfwdb⟩ := execMmu_keeps_modifiers h
    exact ⟨fun _ => hptr, fun _ => hfwdb⟩
  case ent n =>
    obtain ⟨hptr, hfwdb⟩ := execEnt_keeps_modifiers h
    exact ⟨fun _ => hptr, fun _ => hfwdb⟩
  case pld p =>
    simp only [exec, execPld] at h
    split at h <;> (obtain rfl := Host.Outcome.next.inj h; simp)
  all_goals
    obtain rfl := Host.Outcome.next.inj h
    simp

/-- Settles O29: both setters are their field's write and `advance`; of the others `exec_keeps_modifiers`. -/
theorem addressModifierSetters : Obligations.AddressModifierSetters :=
  ⟨fun r => ⟨oneTick_of_operand_bits (i := .poi r) rfl rfl, fun _ => rfl⟩,
    oneTick_of_decodeByte (op := .fwd) (k := 0) rfl rfl rfl, fun _ => rfl,
    fun _ _ _ h hjump hbrh hmem => exec_keeps_modifiers (fun b => (hjump b).1) (fun b => (hjump b).2) hbrh
      (fun r b => (hmem r b).1) (fun r b => (hmem r b).2) h⟩

/-! ### A transfer with its address spelled out -/

/-- A transfer makes the page of its address resident and goes to the line, the low five bits (R151, 20_memory.md R41). -/
theorem State.transfer_eq (s : State) (addr : Byte) :
    s.transfer addr =
      { s.icacheCtl s.iseg ((addr >>> 5).setWidth 3) with line := addr.toNat % 32, eu := .fetch } := by
  rw [State.transfer, lineOf_eq_mod]
  rfl

/-! ### The transferring instructions -/

/-- Settles O30: `transfer_eq` from the state with the modifiers consumed. -/
theorem jmpTransfersToCompositeAddress : Obligations.JmpTransfersToCompositeAddress :=
  ⟨twoTicks_of_decodeByte (op := .jmp) (k := 0) rfl rfl fun _ => rfl,
    fun b s => congrArg Host.Outcome.next (s.clearModifiers.transfer_eq (s.composedAddr b))⟩

/-- Settles O31: `transfer_eq` from the state with the modifiers consumed and the return address pushed. -/
theorem calPushesReturnAddress : Obligations.CalPushesReturnAddress :=
  ⟨twoTicks_of_decodeByte (op := .cal) (k := 0) rfl rfl fun _ => rfl,
    fun b s => congrArg Host.Outcome.next ((s.clearModifiers.pushC s.returnAddr).transfer_eq (s.composedAddr b))⟩

theorem exec_brh_of_holds {cc : Cond} {s : State} (b : Byte) (h : s.flags.holds cc = true) :
    exec (.brh cc b) s = .next (s.clearModifiers.transfer (s.composedAddr b)) := if_pos h

theorem exec_brh_of_not_holds {cc : Cond} {s : State} (b : Byte) (h : s.flags.holds cc = false) :
    exec (.brh cc b) s = .next s.clearModifiers.advance := if_neg (Bool.eq_false_iff.1 h)

/-- Settles O32: `exec_brh_of_holds` with `transfer_eq` where the condition holds, `exec_brh_of_not_holds` where it does
not. -/
theorem brhTakenAndNotTaken : Obligations.BrhTakenAndNotTaken := by
  refine fun cc => ⟨twoTicks_of_operand_bits (op := .brh) (fun _ => rfl) (fun _ => rfl) fun _ => rfl,
    fun b s => ⟨fun htaken => ?_, fun hnot => exec_brh_of_not_holds b hnot⟩⟩
  rw [exec_brh_of_holds b htaken, State.transfer_eq]
  rfl

theorem exec_ret_of_cons {s : State} {addr : Byte} {rest : List Byte} (h : s.cstack = addr :: rest) :
    exec .ret s = .next (State.transfer { s with cstack := rest } addr) := by
  rw [exec, execRet, State.dropC_of_cons h, h, topOf, List.headD_cons]

/-- An empty call stack yields the packed address 0 (10_state.md R19). -/
theorem exec_ret_of_nil {s : State} (h : s.cstack = []) : exec .ret s = .next (s.transfer 0#8) := by
  rw [exec, execRet, State.dropC_of_nil h, h, topOf, List.headD_nil]

/-- Settles O33: one equation for a non-empty and one for an empty call stack, each with `transfer_eq`. -/
theorem retTransfersToPoppedAddress : Obligations.RetTransfersToPoppedAddress := by
  refine ⟨oneTick_of_decodeByte (op := .ret) (k := 0) rfl rfl rfl, fun s => ⟨fun addr rest h => ?_, fun h => ?_⟩⟩
  · rw [exec_ret_of_cons h, State.transfer_eq]
  · rw [exec_ret_of_nil h, State.transfer_eq]
    rfl

end Sys2Proof.Machine
end

section
/-!
PROOFS. Memory access (spec/45_memory_access.md): `MLD` through the data slot (R170), and a stored byte through its eviction
and reload (R173).
-/
namespace Sys2Proof.Machine

/-! ### `MLD` -/

theorem State.residentByte_of_some {s : State} {addr v : Byte} (h : s.dslot.lines.get (addr.toNat % 32) = some v) :
    s.residentByte addr = v := by
  rw [State.residentByte, lineOf_eq_mod, h, Option.getD_some]

theorem State.residentByte_of_none {s : State} {addr : Byte} (h : s.dslot.lines.get (addr.toNat % 32) = none) :
    s.residentByte addr = 0#8 := by
  rw [State.residentByte, lineOf_eq_mod, h, Option.getD_none]

/-- `MLD` makes the page resident and completes a register write of the byte it yields there (R52, R170). -/
theorem exec_mld_regWritten {b v : Byte} {s : State} (r : Reg)
    (h : (s.clearModifiers.touch (s.composedAddr b)).residentByte (s.composedAddr b) = v) :
    ∃ t, exec (.mld r b) s = .next t ∧ RegWritten r v.toNat (s.clearModifiers.touch (s.composedAddr b)) t :=
  ⟨_, rfl, h ▸ State.regWritten_setReg_advance _ r _⟩

/-- Settles O37: the ticks by `twoTicks_of_operand_bits`, the write by `exec_mld_regWritten` with the line present or
absent. -/
theorem mldLoadsThroughDataSlot : Obligations.MldLoadsThroughDataSlot :=
  fun r => ⟨twoTicks_of_operand_bits (op := .mld) (fun _ => rfl) (fun _ => rfl) fun _ => rfl,
    fun _ _ => ⟨fun _ hpresent => exec_mld_regWritten r (State.residentByte_of_some hpresent),
      fun habsent => exec_mld_regWritten r (State.residentByte_of_none habsent)⟩⟩

/-! ### What a store and a load leave for the next access -/

theorem State.composedAddr_of_cleared {s : State} (hptr : s.ptr = 0#8) (hfwdb : s.fwdb = false) (b : Byte) :
    s.composedAddr b = b := by
  simp [State.composedAddr, hptr, hfwdb]

/-- The page part of a packed address is all of `addr >> 5` (20_memory.md R41). -/
theorem pageOf_ne {a b : Byte} (h : a >>> 5 ≠ b >>> 5) : pageOf a ≠ pageOf b := by
  unfold pageOf
  bv_omega

theorem State.memByte_of_clean {s : State} (h : s.dslot.dirty = false) (seg : Segment) (page : PageNum) (line : LineNum) :
    s.memByte seg page line = s.store.get seg page line.toNat := by
  simp [State.memByte, h]

/-- A write is read back from memory at its own address, whatever the slot held before (20_memory.md R53). -/
theorem State.memWrite_memByte_same (s : State) (addr v : Byte) :
    (s.memWrite addr v).memByte s.dseg (pageOf addr) (addr.setWidth 5) = some v := by
  obtain ⟨-, hseg, hpage⟩ := (DSlot.hits_iff _ _ _).1 (s.dcacheCtl_hits s.dseg (pageOf addr))
  rw [State.memByte, if_pos ⟨rfl, hseg, hpage⟩, State.memWrite_dslot_get, lineOf_eq_toNat, if_pos rfl]

/-- A miss leaves a clean slot that is a clone of the page asked for (20_memory.md R47). -/
theorem State.dcacheCtl_clean_clone_of_miss {s : State} {seg : Segment} {page : PageNum}
    (hmiss : s.dslot.hits seg page = false) :
    (s.dcacheCtl seg page).dslot.dirty = false ∧
      (s.dcacheCtl seg page).dslot.lines =
        (s.dcacheCtl seg page).store.clone (s.dcacheCtl seg page).dslot.seg (s.dcacheCtl seg page).dslot.page := by
  rw [State.dcacheCtl_of_miss hmiss]
  exact ⟨rfl, rfl⟩

/-- `MST` leaves a dirty slot with the page of its address, the byte in memory, and the modifiers consumed (R171). -/
theorem exec_mst_leaves (r : Reg) (b : Byte) (s : State) : ∃ t, exec (.mst r b) s = .next t ∧
    t.dslot.dirty = true ∧ t.dslot.page = pageOf (s.composedAddr b) ∧ t.dseg = s.dseg ∧
    (∀ c, t.composedAddr c = c) ∧
    t.memByte s.dseg (pageOf (s.composedAddr b)) ((s.composedAddr b).setWidth 5) = some (s.x r) := by
  obtain ⟨-, -, hpage⟩ :=
    (DSlot.hits_iff _ _ _).1 (s.clearModifiers.dcacheCtl_hits s.dseg (pageOf (s.composedAddr b)))
  exact ⟨_, rfl, rfl, hpage, State.dseg_congr (by simp) (by simp) (by simp),
    State.composedAddr_of_cleared (by simp) (by simp), s.clearModifiers.memWrite_memByte_same _ _⟩

/-- An `MLD` from a page the slot does not hold leaves a clean clone in the slot and changes no byte of memory (20_memory.md
R47, R59). -/
theorem exec_mld_of_miss {s : State} {b : Byte} (r : Reg) (hmiss : s.dslot.page ≠ pageOf (s.composedAddr b)) :
    ∃ t, exec (.mld r b) s = .next t ∧
      t.dslot.dirty = false ∧ t.dslot.lines = t.store.clone t.dslot.seg t.dslot.page ∧ t.dseg = s.dseg ∧
      (∀ c, t.composedAddr c = c) ∧ ∀ seg page line, t.memByte seg page line = s.memByte seg page line := by
  have hslot : s.clearModifiers.dslot.hits s.dseg (pageOf (s.composedAddr b)) = false :=
    (DSlot.hits_eq_false_iff _ _ _).2 fun h => hmiss h.2.2
  obtain ⟨hclean, hclone⟩ := State.dcacheCtl_clean_clone_of_miss hslot
  refine ⟨_, rfl, ?_, ?_, State.dseg_congr (by simp) (by simp) (by simp),
    State.composedAddr_of_cleared (by simp) (by simp), fun seg page line => ?_⟩
  · rwa [State.advance_dslot, State.setReg_dslot]
  · rwa [State.advance_dslot, State.setReg_dslot, State.advance_store, State.setReg_store]
  · rw [State.memByte, State.advance_dslot, State.setReg_dslot, State.advance_store, State.setReg_store]
    exact s.clearModifiers.dcacheCtl_memByte s.dseg _ seg page line

/-- Where the slot is a clone of its page, `MLD` yields the byte memory holds at its address (20_memory.md R52, R59). -/
theorem exec_mld_yields_memByte {s : State} (r : Reg) (b : Byte)
    (hclone : s.dslot.lines = s.store.clone s.dslot.seg s.dslot.page) :
    ∃ t, exec (.mld r b) s = .next t ∧
      t.x r = (s.memByte s.dseg (pageOf (s.composedAddr b)) ((s.composedAddr b).setWidth 5)).getD 0#8 := by
  refine ⟨_, rfl, ?_⟩
  rw [State.x_advance, State.x_setReg, if_pos rfl]
  exact State.touch_residentByte (s := s.clearModifiers) (fun _ _ => hclone) (s.composedAddr b)

/-- Settles O42: the byte stays in memory from the store on, in the dirty slot first; the load from another page leaves the
slot clean, so `STORE` holds the byte, and the slot a clone, so the second load yields it. -/
theorem evictedStoreIsReloaded : Obligations.EvictedStoreIsReloaded := by
  intro r q w b other s hother
  obtain ⟨t₁, hstore, hdirty, hpage, hdseg₁, haddr₁, hbyte⟩ := exec_mst_leaves r b s
  have hmiss : t₁.dslot.page ≠ pageOf (t₁.composedAddr other) := by
    rw [hpage, haddr₁]
    exact pageOf_ne hother.symm
  obtain ⟨t₂, hload, hclean, hclone, hdseg₂, haddr₂, hkeep⟩ := exec_mld_of_miss q hmiss
  rw [← hkeep] at hbyte
  obtain ⟨t₃, hreload, hx⟩ := exec_mld_yields_memByte w (s.composedAddr b) hclone
  refine ⟨t₁, t₂, t₃, hstore, hdirty, hload, ?_, hreload, ?_⟩
  · rwa [State.memByte_of_clean hclean, ← lineOf_eq_toNat, lineOf_eq_mod] at hbyte
  · rw [hx, haddr₂, hdseg₂, hdseg₁, hbyte, Option.getD_some]

end Sys2Proof.Machine
end

section
/-!
PROOFS. Ports (spec/46_ports.md): the ranges of devices and the map a launch makes of them (R185), `PST` and `PLD` with and
without a device (R180 to R182), and the event history of one instruction (R184).
-/
namespace Sys2Proof

/-! ### The ranges of devices -/

theorem RawPort.ok_iff {d : RawPort} : d.ok = true ↔ 0 ≤ d.first ∧ d.first ≤ 15 ∧ d.first + d.count ≤ 16 := by
  simp [RawPort.ok, and_assoc]

theorem RawPort.apart_iff {d e : RawPort} :
    d.apart e = true ↔ d.count = 0 ∨ e.count = 0 ∨ d.first + d.count ≤ e.first ∨ e.first + e.count ≤ d.first := by
  simp [RawPort.apart, or_assoc]

/-- Two devices that share an address are not apart (R185). -/
theorem RawPort.not_apart_of_shared {d e : RawPort} {a : Int}
    (h : d.first ≤ a ∧ a < d.first + d.count ∧ e.first ≤ a ∧ a < e.first + e.count) : ¬ d.apart e = true := by
  rw [RawPort.apart_iff]
  omega

theorem portsApart_iff_pairwise {l : List RawPort} : portsApart l = true ↔ l.Pairwise fun d e => d.apart e = true := by
  induction l with
  | nil => simp [portsApart]
  | cons d rest ih => simp [portsApart, ih]

/-- A device with no address stands apart from every other, wherever it is listed (log 15). -/
theorem portsApart_remove_empty {pre post : List RawPort} {d : RawPort} (h : d.count = 0) :
    portsApart (pre ++ d :: post) = portsApart (pre ++ post) := by
  have hleft (e : RawPort) : d.apart e = true := RawPort.apart_iff.2 (.inl h)
  have hright (e : RawPort) : e.apart d = true := RawPort.apart_iff.2 (.inr (.inl h))
  rw [Bool.eq_iff_iff, portsApart_iff_pairwise, portsApart_iff_pairwise]
  simp [List.pairwise_append, hleft, hright]

/-- Leaving out a device with no address, named at a port number, keeps a configuration accepted or not (log 15). -/
theorem RawConfig.wf_remove_empty {c : RawConfig} {pre post : List RawPort} {d : RawPort}
    (hports : c.ports = pre ++ d :: post) (hcount : d.count = 0) (hok : d.ok = true) :
    c.wf = { c with ports := pre ++ post }.wf := by
  simp [RawConfig.wf, hports, hok, portsApart_remove_empty hcount, RawConfig.distinctKeys]

end Sys2Proof

namespace Sys2Proof.Machine

/-! ### The port map of a launch -/

theorem mem_portsOfRaw {l : List RawPort} {e : PortEntry} :
    e ∈ portsOfRaw l ↔ ∃ d ∈ l, ∃ i < d.count, { port := BitVec.ofInt 4 (d.first + i), kind := d.kind } = e := by
  induction l with
  | nil => simp [portsOfRaw]
  | cons d rest ih => simp [portsOfRaw, ih]

theorem portsOfRaw_remove_empty {pre post : List RawPort} {d : RawPort} (h : d.count = 0) :
    portsOfRaw (pre ++ d :: post) = portsOfRaw (pre ++ post) := by
  induction pre with
  | nil => simp [portsOfRaw, h]
  | cons e rest ih => rw [List.cons_append, portsOfRaw, ih, List.cons_append, portsOfRaw]

/-- An integer in 0..15 is the port address it is written as. -/
theorem ofInt_eq_port_iff {a : Int} {p : PortAddr} (hlo : 0 ≤ a) (hhi : a < 16) :
    BitVec.ofInt 4 a = p ↔ a = (p.toNat : Int) := by
  rw [← BitVec.toNat_inj, BitVec.toNat_ofInt]
  omega

/-- The map made of ranges within 0..15 lists exactly the addresses of the ranges (R185). -/
theorem exists_port_portsOfRaw_iff {l : List RawPort} (hok : ∀ d ∈ l, d.ok = true) (p : PortAddr) :
    (∃ e ∈ portsOfRaw l, e.port = p) ↔
      ∃ d ∈ l, d.first ≤ (p.toNat : Int) ∧ (p.toNat : Int) < d.first + d.count := by
  constructor
  · rintro ⟨_, hmem, hport⟩
    obtain ⟨d, hd, i, hi, rfl⟩ := mem_portsOfRaw.1 hmem
    obtain ⟨hlo, -, hhi⟩ := RawPort.ok_iff.1 (hok d hd)
    rw [ofInt_eq_port_iff (by omega) (by omega)] at hport
    exact ⟨d, hd, by omega⟩
  · rintro ⟨d, hd, hrange⟩
    obtain ⟨hlo, -, hhi⟩ := RawPort.ok_iff.1 (hok d hd)
    refine ⟨_, mem_portsOfRaw.2 ⟨d, hd, ((p.toNat : Int) - d.first).toNat, by omega, rfl⟩, ?_⟩
    rw [ofInt_eq_port_iff] <;> omega

theorem launch_remove_empty {c : RawConfig} {pre post : List RawPort} {d : RawPort}
    (hports : c.ports = pre ++ d :: post) (hcount : d.count = 0) (hok : d.ok = true) :
    launch c = launch { c with ports := pre ++ post } := by
  have hrun : runOfRaw c = runOfRaw { c with ports := pre ++ post } := by
    simp only [runOfRaw, hports, portsOfRaw_remove_empty hcount]
  rw [launch, launch, RawConfig.wf_remove_empty hports hcount hok, hrun]

/-- Settles O4: a range out of 0..15 contradicts `RawPort.ok`, a shared address `portsApart`; `launch_remove_empty`; and the
map of the run is that of `exists_port_portsOfRaw_iff`. -/
theorem portRangesResolve : Obligations.PortRangesResolve := by
  refine fun c => ⟨?_, ?_, fun pre d post hports hcount hlo hhi => ?_, fun t hlaunch p => ?_⟩
  · rintro ⟨d, hd, hout⟩
    refine launch_of_not_wf fun hwf => ?_
    obtain ⟨-, -, -, hok, -, -⟩ := RawConfig.wf_iff.1 hwf
    have hin := RawPort.ok_iff.1 (hok d hd)
    omega
  · rintro pre d mid e post hports ⟨a, hshared⟩
    refine launch_of_not_wf fun hwf => RawPort.not_apart_of_shared hshared ?_
    obtain ⟨-, -, -, -, hapart, -⟩ := RawConfig.wf_iff.1 hwf
    rw [hports, portsApart_iff_pairwise] at hapart
    exact (List.pairwise_cons.1 (List.pairwise_append.1 hapart).2.1).1 e (by simp)
  · exact launch_remove_empty hports hcount (RawPort.ok_iff.2 ⟨hlo, hhi, by omega⟩)
  · obtain ⟨hwf, rfl⟩ := launch_eq_next_iff.1 hlaunch
    obtain ⟨-, -, -, hok, -, -⟩ := RawConfig.wf_iff.1 hwf
    exact (State.hasDevice_iff _ p).trans (exists_port_portsOfRaw_iff hok p)

/-! ### `PST` and `PLD` -/

/-- A one-byte instruction is run by the tick that fetches its pattern with its operand, whose bits are `k` (R93). -/
theorem oneTick_of_operand {i : Instr} {n : Nat} {k : BitVec n} (hn : n ≤ 5) (hoperand : i.operand = k.setWidth 5)
    (hsecond : i.second = none) : OneTick (i.opcode.pattern ||| k.setWidth 8) i := by
  have hdecode := (i.decodeByte_eq_iff _).2 rfl
  have hrebuild := i.rebuild
  rw [hsecond] at hrebuild
  rw [hoperand, BitVec.setWidth_setWidth (by omega), ← hoperand] at hdecode
  refine oneTick_of_decodeByte hdecode ?_ hrebuild
  rw [← i.second_isSome, hsecond, Option.isSome_none]

theorem State.hasDevice_eq_false_iff (s : State) (p : PortAddr) :
    s.hasDevice p = false ↔ ∀ e ∈ s.cfg.portMap, e.port ≠ p := by
  rw [← Bool.not_eq_true, State.hasDevice_iff, not_exists]
  simp only [not_and, ne_eq]

theorem State.portStore_of_device {s : State} {p : PortAddr} (h : s.hasDevice p = true) (v : Byte) :
    s.portStore p v = { s with events := s.events ++ [.portStore p v] } := if_pos h

theorem State.portStore_of_no_device {s : State} {p : PortAddr} (h : s.hasDevice p = false) (v : Byte) :
    s.portStore p v = s := if_neg (Bool.eq_false_iff.1 h)

/-- Settles O45: the port store with and without a device, then `advance`. -/
theorem pstStoresAccumulator : Obligations.PstStoresAccumulator := by
  refine fun p => ⟨oneTick_of_operand (i := .pst p) (by decide) rfl rfl, fun s => ⟨fun h => ?_, fun h => ?_⟩⟩
  · rw [exec, execPst, State.portStore_of_device ((s.hasDevice_iff p).2 h)]
    rfl
  · rw [exec, execPst, State.portStore_of_no_device ((s.hasDevice_eq_false_iff p).2 h)]
    rfl

theorem exec_pld_of_device {s : State} {p : PortAddr} (h : s.hasDevice p = true) :
    exec (.pld p) s = .next ((s.portLoaded p).setReg .acc s.portAnswer).advance := if_pos h

theorem exec_pld_of_no_device {s : State} {p : PortAddr} (h : s.hasDevice p = false) :
    exec (.pld p) s = .next s.advance := if_neg (Bool.eq_false_iff.1 h)

/-- Settles O46: with a device the oracle's answer is recorded and written by `regWritten_setReg_advance`, without one the
instruction is `advance`. -/
theorem pldLoadsDeviceAnswer : Obligations.PldLoadsDeviceAnswer :=
  fun p => ⟨oneTick_of_operand (i := .pld p) (by decide) rfl rfl, fun s =>
    ⟨fun h => ⟨s.portAnswer, _, exec_pld_of_device ((s.hasDevice_iff p).2 h),
        (s.portLoaded p).regWritten_setReg_advance .acc s.portAnswer⟩,
      fun h => exec_pld_of_no_device ((s.hasDevice_eq_false_iff p).2 h)⟩⟩

@[simp] theorem State.setReg_acc_a (s : State) (v : Byte) : (s.setReg .acc v).a = v := ofInt_toNat v

theorem State.portAnswer_of_cons {s : State} {v : Byte} {rest : List Byte} (h : s.portAnswers = v :: rest) :
    s.portAnswer = v := by
  simp only [State.portAnswer, h]

/-- Settles O47: the answer is the head of the list, and a port load that reached a device leaves its tail. -/
theorem listedPortAnswersAreUsedInOrder : Obligations.ListedPortAnswersAreUsedInOrder := by
  intro p s v rest hdevice hlisted
  refine ⟨_, exec_pld_of_device ((s.hasDevice_iff p).2 hdevice), ?_, ?_⟩
  · rw [State.advance_a, State.setReg_acc_a, State.portAnswer_of_cons hlisted]
  · simp [hlisted]

/-! ### The event history of one instruction -/

@[simp] theorem mmuLkp_events (s : State) : (mmuLkp s).events = s.events := by
  cases h : syscallIn s.cfg.syscallTable s.a with
  | none => rw [mmuLkp_of_none h, State.raise_events]
  | some e => rw [mmuLkp_of_some h]

@[simp] theorem State.enterKernel_events (s : State) (e : EntryPoint) (n : SysNum) :
    (s.enterKernel e n).events = s.events := by rw [State.enterKernel_eq]

theorem execMmu_events {f : MmuOp} {s t : State} (h : execMmu f s = .next t) : t.events = s.events := by
  cases hm : s.mode with
  | application =>
    rw [execMmu_of_application hm] at h
    obtain rfl := Host.Outcome.next.inj h
    rfl
  | kernel =>
    rw [execMmu_of_kernel hm] at h
    obtain rfl := Host.Outcome.next.inj h
    cases f
    case lkp => exact mmuLkp_events s
    all_goals rfl

theorem execEnt_events {n : SysNum} {s t : State} (h : execEnt n s = .next t) : t.events = s.events := by
  rcases execEnt_cases h with ⟨-, rfl⟩ | ⟨-, -, rfl⟩ | ⟨e, -, -, rfl⟩
  · rfl
  · rfl
  · exact s.enterKernel_events e n

/-- Every instruction but `PST`, `PLD`, `MLD` and `MST` keeps the event history (R180, R184). -/
theorem exec_keeps_events {i : Instr} {s t : State} (hpst : ∀ p, i ≠ .pst p) (hpld : ∀ p, i ≠ .pld p)
    (hmld : ∀ r b, i ≠ .mld r b) (hmst : ∀ r b, i ≠ .mst r b) (h : exec i s = .next t) : t.events = s.events := by
  cases i
  case pst p => exact absurd rfl (hpst p)
  case pld p => exact absurd rfl (hpld p)
  case mld r b => exact absurd rfl (hmld r b)
  case mst r b => exact absurd rfl (hmst r b)
  case mmu f => exact execMmu_events h
  case ent n => exact execEnt_events h
  case brh cc b =>
    simp only [exec, execBrh] at h
    split at h <;> (obtain rfl := Host.Outcome.next.inj h; simp)
  all_goals
    obtain rfl := Host.Outcome.next.inj h
    simp

/-- Making a page resident records at most one event, the write-back of the slot it evicts (20_memory.md R47). -/
theorem State.touch_events (s : State) (addr : Byte) :
    (∃ seg page, (s.touch addr).events = s.events ++ [.writeBack seg page]) ∨ (s.touch addr).events = s.events := by
  rcases s.dcacheCtl_cases s.dseg (pageOf addr) with ⟨-, heq⟩ | ⟨-, -, heq⟩ | ⟨-, -, heq⟩
  · exact .inr (by rw [State.touch, heq])
  · exact .inr (by rw [State.touch, heq, State.loadData_events])
  · exact .inl ⟨s.dslot.seg, s.dslot.page, by rw [State.touch, heq, State.loadData_events]⟩

/-- A memory access records what making its page resident records (R170, R171). -/
theorem exec_memory_events {i : Instr} {r : Reg} {b : Byte} {s t : State} (hi : i = .mld r b ∨ i = .mst r b)
    (h : exec i s = .next t) : t.events = (s.clearModifiers.touch (s.composedAddr b)).events := by
  rcases hi with rfl | rfl
  all_goals
    obtain rfl := Host.Outcome.next.inj h
    simp

theorem exec_pst_events {p : PortAddr} {s t : State} (h : exec (.pst p) s = .next t) :
    t.events = s.events ++ [.portStore p s.a] ∨ t.events = s.events := by
  obtain rfl := Host.Outcome.next.inj h
  cases hdevice : s.hasDevice p with
  | true => exact .inl (by rw [State.portStore_of_device hdevice, State.advance_events])
  | false => exact .inr (by rw [State.portStore_of_no_device hdevice, State.advance_events])

theorem exec_pld_events {p : PortAddr} {s t : State} (h : exec (.pld p) s = .next t) :
    t.events = s.events ++ [.portLoad p s.portAnswer] ∨ t.events = s.events := by
  cases hdevice : s.hasDevice p with
  | true =>
    rw [exec_pld_of_device hdevice] at h
    obtain rfl := Host.Outcome.next.inj h
    exact .inl (by simp)
  | false =>
    rw [exec_pld_of_no_device hdevice] at h
    obtain rfl := Host.Outcome.next.inj h
    exact .inr s.advance_events

/-- Settles O48: a port instruction records its own transaction, a memory access a write-back by `touch_events`, and
`exec_keeps_events` has the rest. -/
theorem portEventsOnlyByPortInstructions : Obligations.PortEventsOnlyByPortInstructions := by
  intro i s t h
  by_cases hpst : ∃ p, i = .pst p
  · obtain ⟨p, rfl⟩ := hpst
    exact (exec_pst_events h).imp_left fun hev => ⟨_, hev, .inl ⟨p, s.a, rfl, rfl⟩⟩
  by_cases hpld : ∃ p, i = .pld p
  · obtain ⟨p, rfl⟩ := hpld
    exact (exec_pld_events h).imp_left fun hev => ⟨_, hev, .inr (.inl ⟨p, s.portAnswer, rfl, rfl⟩)⟩
  by_cases hmem : ∃ r b, i = .mld r b ∨ i = .mst r b
  · obtain ⟨r, b, hi⟩ := hmem
    rw [exec_memory_events hi h]
    exact (s.clearModifiers.touch_events _).imp_left fun ⟨seg, page, hev⟩ => ⟨_, hev, .inr (.inr ⟨seg, page, rfl⟩)⟩
  · exact .inr (exec_keeps_events (fun p e => hpst ⟨p, e⟩) (fun p e => hpld ⟨p, e⟩) (fun r b e => hmem ⟨r, b, .inl e⟩)
      (fun r b e => hmem ⟨r, b, .inr e⟩) h)

end Sys2Proof.Machine
end

section
/-!
PROOFS. Privilege (spec/47_privilege_mmu.md): `ENT` and the eight operations of `MMU` (R190 to R200), and what the mode
decides: the control state in application mode (R58, R191), and no other instruction's meaning (R201).
-/
namespace Sys2Proof.Machine

/-! ### `ENT` -/

/-- Settles O49: one lemma for each of the two fatal conditions; the trap by `enterKernel_eq`, its slot a clone. -/
theorem entTakesTheTrap : Obligations.EntTakesTheTrap := by
  refine fun n => ⟨oneTick_of_operand (i := .ent n) le_rfl (BitVec.setWidth_eq n).symm rfl, fun s =>
    ⟨fun hm => execEnt_of_kernel hm n, fun hm hc => execEnt_of_unconfigured hm hc n, fun e hm hc =>
      ⟨_, execEnt_of_entry hm hc n, ?_⟩⟩⟩
  rw [State.enterKernel_eq]
  exact ⟨rfl, Store.get_clone_toNat _ _ _⟩

/-! ### The operations of `MMU` -/

/-- Settles O50: the tick by `oneTick_of_operand_bits`, the no-op by `execMmu_of_application`. -/
theorem mmuIsSilentInApplicationMode : Obligations.MmuIsSilentInApplicationMode :=
  fun f => ⟨oneTick_of_operand_bits (i := .mmu f) rfl rfl, fun _ hm => execMmu_of_application hm f⟩

/-- The ways `MMU 4` ends: the fatal condition, and the page of an entry of the syscall table (R197). -/
theorem mmuLkp_cases (s : State) :
    mmuLkp s = s.raise .unmappedSyscall ∨
    ∃ e : SyscallEntry, mmuLkp s = ((s.setIseg e.seg).icacheCtl e.seg e.page).goto 0 := by
  cases h : syscallIn s.cfg.syscallTable s.a with
  | none => exact .inl (mmuLkp_of_none h)
  | some e => exact .inr ⟨e, by simp only [mmuLkp, h]⟩

@[simp] theorem mmuLkp_ds (s : State) : (mmuLkp s).ds = s.ds := by
  rcases mmuLkp_cases s with heq | ⟨e, heq⟩ <;> simp [heq]

theorem execMmu_ds_ne_none {f : MmuOp} {s t : State} (h : execMmu f s = .next t) (hset : s.ds ≠ none) : t.ds ≠ none := by
  cases hm : s.mode with
  | application =>
    rw [execMmu_of_application hm] at h
    obtain rfl := Host.Outcome.next.inj h
    exact hset
  | kernel =>
    rw [execMmu_of_kernel hm] at h
    obtain rfl := Host.Outcome.next.inj h
    cases f
    case dsg => exact Option.some_ne_none s.a
    case lkp => rwa [mmuLkp_ds]
    all_goals exact hset

theorem execEnt_ds {n : SysNum} {s t : State} (h : execEnt n s = .next t) : t.ds = s.ds := by
  rcases execEnt_cases h with ⟨-, rfl⟩ | ⟨-, -, rfl⟩ | ⟨e, -, -, rfl⟩
  · rfl
  · rfl
  · rw [State.enterKernel_eq]

/-- `DS`, once set, is never none again: `MMU 2` is all that writes it (R195, 10_state.md R26). -/
theorem exec_ds_ne_none {i : Instr} {s t : State} (h : exec i s = .next t) (hset : s.ds ≠ none) : t.ds ≠ none := by
  by_cases hmmu : ∃ f, i = .mmu f
  · obtain ⟨f, rfl⟩ := hmmu
    exact execMmu_ds_ne_none h hset
  by_cases hent : ∃ n, i = .ent n
  · obtain ⟨n, rfl⟩ := hent
    exact execEnt_ds h ▸ hset
  obtain ⟨-, hds, -⟩ := exec_keeps_control (not_exists.1 hmmu) (not_exists.1 hent) h
  exact hds ▸ hset

/-- Settles O51: `exec_ds_ne_none`, and the four operations in kernel mode. -/
theorem segmentOperations : Obligations.SegmentOperations :=
  ⟨fun _ _ _ => exec_ds_ne_none, fun _ hm =>
    ⟨execMmu_of_kernel hm .isg, execMmu_of_kernel hm .psg, execMmu_of_kernel hm .dsg, execMmu_of_kernel hm .ksg⟩⟩

/-- Settles O52: the search of the syscall table answers nothing or the one entry for the accumulator, and `mmuLkp_of_none`
and `mmuLkp_of_some` say what `MMU 4` makes of it. -/
theorem loadKernelPageFollowsSyscallTable : Obligations.LoadKernelPageFollowsSyscallTable := by
  intro s hm
  have hexec : exec (.mmu (MmuOp.ofBits 4)) s = .next (mmuLkp s) := execMmu_of_kernel hm .lkp
  refine ⟨fun hnone => ?_, fun e he hnumber hunique => ⟨mmuLkp s, hexec, ?_⟩⟩
  · rw [hexec, mmuLkp_of_none ((syscallIn_eq_none_iff _ _).2 hnone)]
    rfl
  · cases hfound : syscallIn s.cfg.syscallTable s.a with
    | none => exact absurd hnumber ((syscallIn_eq_none_iff _ _).1 hfound e he)
    | some f =>
      obtain ⟨hf, hfnumber⟩ := syscallIn_mem hfound
      obtain rfl := hunique f hf hfnumber
      rw [mmuLkp_of_some hfound]
      exact ⟨rfl, Store.get_clone_toNat _ _ _⟩

/-- Settles O53: the operation is `exitKernel` and `advance`. -/
theorem exitKernelMode : Obligations.ExitKernelMode :=
  fun _ hm => execMmu_of_kernel hm .xkm

/-- Settles O54: one operation writes `PID`, the other the accumulator by `regWritten_setReg_advance`. -/
theorem processIdOperations : Obligations.ProcessIdOperations :=
  fun s hm => ⟨execMmu_of_kernel hm .spi,
    (s.setReg .acc s.pid).advance, execMmu_of_kernel hm .gpi, s.regWritten_setReg_advance .acc s.pid⟩

/-! ### What the mode decides -/

/-- Settles O57: in application mode `MMU` is `advance`, and of the rest but `ENT` `exec_keeps_control`. -/
theorem applicationKeepsControlState : Obligations.ApplicationKeepsControlState := by
  intro i s t hm hent h
  by_cases hmmu : ∃ f, i = .mmu f
  · obtain ⟨f, rfl⟩ := hmmu
    obtain rfl := Host.Outcome.next.inj ((execMmu_of_application hm f).symm.trans h)
    exact ⟨rfl, rfl, rfl, rfl, hm⟩
  · rw [← hm]
    exact exec_keeps_control (not_exists.1 hmmu) hent h

/-! Replacing the mode commutes with every operation that the instructions but `MMU` and `ENT` are built from (R201). -/

section SetMode

variable (s : State) (m : Mode)

theorem State.setMode_writeReg (r : Reg) (V : Int) : (s.setMode m).writeReg r V = (s.writeReg r V).setMode m := by
  cases r <;> rfl

theorem State.setMode_icacheCtl (seg : Segment) (page : PageNum) :
    (s.setMode m).icacheCtl seg page = (s.icacheCtl seg page).setMode m := by
  cases h : s.islot.hits seg page with
  | true => rw [State.icacheCtl_of_hit h, State.icacheCtl_of_hit (s := s.setMode m) h]
  | false => rw [State.icacheCtl_of_miss h, State.icacheCtl_of_miss (s := s.setMode m) h]; rfl

theorem State.setMode_transfer (addr : Byte) : (s.setMode m).transfer addr = (s.transfer addr).setMode m :=
  congrArg (State.goto · (lineOf addr)) (s.setMode_icacheCtl m s.iseg (pageOf addr))

theorem State.setMode_writeBack : (s.setMode m).writeBack = s.writeBack.setMode m := by
  cases h : s.dslot.dirty with
  | true => rw [State.writeBack_of_dirty h, State.writeBack_of_dirty (s := s.setMode m) h]; rfl
  | false => rw [State.writeBack_of_clean h, State.writeBack_of_clean (s := s.setMode m) h]

theorem State.setMode_touch (addr : Byte) : (s.setMode m).touch addr = (s.touch addr).setMode m := by
  show (s.setMode m).dcacheCtl s.dseg (pageOf addr) = (s.dcacheCtl s.dseg (pageOf addr)).setMode m
  cases h : s.dslot.hits s.dseg (pageOf addr) with
  | true => rw [State.dcacheCtl_of_hit h, State.dcacheCtl_of_hit (s := s.setMode m) h]
  | false =>
    rw [State.dcacheCtl_of_miss h, State.dcacheCtl_of_miss (s := s.setMode m) h, State.setMode_writeBack]
    rfl

theorem State.setMode_memWrite (addr v : Byte) : (s.setMode m).memWrite addr v = (s.memWrite addr v).setMode m :=
  congrArg (State.writeLine · addr v) (s.setMode_touch m addr)

theorem State.setMode_portStore (p : PortAddr) (v : Byte) :
    (s.setMode m).portStore p v = (s.portStore p v).setMode m := by
  cases h : s.hasDevice p with
  | true => rw [State.portStore_of_device h, State.portStore_of_device (s := s.setMode m) h]; rfl
  | false => rw [State.portStore_of_no_device h, State.portStore_of_no_device (s := s.setMode m) h]

end SetMode

/-- Replacing the mode commutes with every instruction but `MMU` and `ENT`: what reads no mode answers the same, a field
written commutes outright, and the rest is one lemma for the operation the instruction is built on. -/
theorem exec_setMode {i : Instr} {s t : State} (m : Mode) (hmmu : ∀ f, i ≠ .mmu f) (hent : ∀ n, i ≠ .ent n)
    (h : exec i s = .next t) : exec i (s.setMode m) = .next (t.setMode m) := by
  cases i
  case mmu f => exact absurd rfl (hmmu f)
  case ent n => exact absurd rfl (hent n)
  case nop | cry | fwd | ppi | cpi | pps | cps | poi | add | sub | and | ior | xor | ast =>
    obtain rfl := Host.Outcome.next.inj h
    rfl
  case imm | rst | rsh | inc | dec | neg =>
    obtain rfl := Host.Outcome.next.inj h
    exact congrArg (Host.Outcome.next ·.advance) (s.setMode_writeReg m _ _)
  case ppl r =>
    obtain rfl := Host.Outcome.next.inj h
    exact congrArg (Host.Outcome.next ·.advance) (s.dropP.setMode_writeReg m r _)
  case cpl r =>
    obtain rfl := Host.Outcome.next.inj h
    exact congrArg (Host.Outcome.next ·.advance) (s.dropC.setMode_writeReg m r _)
  case jmp b =>
    obtain rfl := Host.Outcome.next.inj h
    exact congrArg Host.Outcome.next (s.clearModifiers.setMode_transfer m _)
  case cal b =>
    obtain rfl := Host.Outcome.next.inj h
    exact congrArg Host.Outcome.next ((s.clearModifiers.pushC s.returnAddr).setMode_transfer m _)
  case ret =>
    obtain rfl := Host.Outcome.next.inj h
    exact congrArg Host.Outcome.next (s.dropC.setMode_transfer m _)
  case brh cc b =>
    cases hcond : s.flags.holds cc with
    | true =>
      rw [exec_brh_of_holds b hcond] at h
      obtain rfl := Host.Outcome.next.inj h
      rw [exec_brh_of_holds (s := s.setMode m) b hcond]
      exact congrArg Host.Outcome.next (s.clearModifiers.setMode_transfer m _)
    | false =>
      rw [exec_brh_of_not_holds b hcond] at h
      obtain rfl := Host.Outcome.next.inj h
      exact exec_brh_of_not_holds (s := s.setMode m) b hcond
  case mld r b =>
    obtain rfl := Host.Outcome.next.inj h
    have htouch := s.clearModifiers.setMode_touch m (s.composedAddr b)
    exact congrArg (Host.Outcome.next ·.advance)
      ((congrArg (fun u : State => u.setReg r (u.residentByte (s.composedAddr b))) htouch).trans
        (State.setMode_writeReg _ m r _))
  case mst r b =>
    obtain rfl := Host.Outcome.next.inj h
    exact congrArg (Host.Outcome.next ·.advance) (s.clearModifiers.setMode_memWrite m _ _)
  case pst p =>
    obtain rfl := Host.Outcome.next.inj h
    exact congrArg (Host.Outcome.next ·.advance) (s.setMode_portStore m p s.a)
  case pld p =>
    cases hdevice : s.hasDevice p with
    | true =>
      rw [exec_pld_of_device hdevice] at h
      obtain rfl := Host.Outcome.next.inj h
      exact exec_pld_of_device (s := s.setMode m) hdevice
    | false =>
      rw [exec_pld_of_no_device hdevice] at h
      obtain rfl := Host.Outcome.next.inj h
      exact exec_pld_of_no_device (s := s.setMode m) hdevice

/-- Settles O56: `exec_setMode`. -/
theorem otherInstructionsIgnoreMode : Obligations.OtherInstructionsIgnoreMode :=
  fun _ _ _ m hmmu hent => exec_setMode m hmmu hent

end Sys2Proof.Machine
end

section
/-!
PROOFS. Final memory (spec/70_reset_and_hazards.md R245): what memory reads depends on `STORE` and on all of the data slot
but its valid bit, and no instruction but `MST` changes it (20_memory.md R47, R52, R59).
-/
namespace Sys2Proof.Machine

/-- Memory does not read the data slot's valid bit: an invalidated dirty page is still memory (20_memory.md R51, R245). -/
theorem State.memByte_congr {s t : State} (hdslot : t.dslot = { s.dslot with valid := t.dslot.valid })
    (hstore : t.store = s.store) (seg : Segment) (page : PageNum) (line : LineNum) :
    t.memByte seg page line = s.memByte seg page line := by
  rw [State.memByte, hdslot, hstore]
  rfl

@[simp] theorem mmuLkp_dslot (s : State) : (mmuLkp s).dslot = s.dslot := by
  rcases mmuLkp_cases s with heq | ⟨e, heq⟩ <;> simp [heq]

theorem execMmu_dslot {f : MmuOp} {s t : State} (h : execMmu f s = .next t) :
    t.dslot = { s.dslot with valid := t.dslot.valid } := by
  cases hm : s.mode with
  | application =>
    rw [execMmu_of_application hm] at h
    obtain rfl := Host.Outcome.next.inj h
    rfl
  | kernel =>
    rw [execMmu_of_kernel hm] at h
    obtain rfl := Host.Outcome.next.inj h
    cases f
    case lkp => simp
    all_goals rfl

theorem execEnt_dslot {n : SysNum} {s t : State} (h : execEnt n s = .next t) : t.dslot = s.dslot := by
  rcases execEnt_cases h with ⟨-, rfl⟩ | ⟨-, -, rfl⟩ | ⟨e, -, -, rfl⟩
  · rfl
  · rfl
  · rw [State.enterKernel_eq]

/-- Every instruction but `MLD` and `MST` keeps the data slot, its valid bit apart (20_memory.md R51). -/
theorem exec_keeps_dslot {i : Instr} {s t : State} (hmld : ∀ r b, i ≠ .mld r b) (hmst : ∀ r b, i ≠ .mst r b)
    (h : exec i s = .next t) : t.dslot = { s.dslot with valid := t.dslot.valid } := by
  cases i
  case mld r b => exact absurd rfl (hmld r b)
  case mst r b => exact absurd rfl (hmst r b)
  case mmu f => exact execMmu_dslot h
  case ent n => rw [execEnt_dslot h]
  case brh | pld =>
    simp only [exec, execBrh, execPld] at h
    split at h <;> (obtain rfl := Host.Outcome.next.inj h; simp)
  all_goals
    obtain rfl := Host.Outcome.next.inj h
    simp

/-- Settles O39: a load changes memory as its cache access does, by `dcacheCtl_memByte` not at all; every other instruction
keeps the slot by `exec_keeps_dslot` and `STORE` by `exec_keeps_store`. -/
theorem onlyMstChangesMemory : Obligations.OnlyMstChangesMemory := by
  intro i s t hmst h seg page line
  by_cases hmld : ∃ r b, i = .mld r b
  · obtain ⟨r, b, rfl⟩ := hmld
    obtain rfl := Host.Outcome.next.inj h
    calc
      _ = (s.clearModifiers.touch (s.composedAddr b)).memByte seg page line :=
        State.memByte_congr (by simp) (by simp) seg page line
      _ = s.clearModifiers.memByte seg page line := State.dcacheCtl_memByte _ _ _ seg page line
  · have hload : ∀ r b, i ≠ .mld r b := fun r b e => hmld ⟨r, b, e⟩
    exact State.memByte_congr (exec_keeps_dslot hload hmst h) (exec_keeps_store hload hmst h) seg page line

end Sys2Proof.Machine
end

section
/-!
PROOFS. Reset (spec/70_reset_and_hazards.md R240, R241): the values it leaves, the invariant, and the first tick after it.
-/
namespace Sys2Proof.Machine

theorem State.resetWith_fault_of_mapped {cfg : RunConfig} (h : cfg.store0.isMapped 0#8 0#3 = true) :
    (State.resetWith cfg).fault = none := if_pos h

theorem State.resetWith_fault_of_unmapped {cfg : RunConfig} (h : cfg.store0.isMapped 0#8 0#3 = false) :
    (State.resetWith cfg).fault = some .noProgramEntry := if_neg (Bool.eq_false_iff.1 h)

/-- After reset the instruction slot reads as the page (0, 0) of `STORE0` (R240). -/
theorem State.resetWith_islot_get (cfg : RunConfig) (l : LineNum) :
    (State.resetWith cfg).islot.lines.get l.toNat = cfg.store0.get 0#8 0#3 l.toNat := Store.get_clone_toNat _ _ _ _

/-- Settles O1: the fault and the slot's lines have their lemmas, every other item is the value reset writes. -/
theorem resetLeavesSpecValues : Obligations.ResetLeavesSpecValues :=
  ⟨fun cfg => ⟨fun r => by cases r <;> rfl, rfl, rfl, rfl, rfl, rfl, rfl, rfl, rfl, rfl, fun _ => rfl, rfl, rfl, rfl, rfl,
      rfl, rfl, rfl, rfl, rfl, rfl,
      fun hmapped => ⟨State.resetWith_fault_of_mapped hmapped, rfl, rfl, rfl, State.resetWith_islot_get cfg⟩,
      State.resetWith_fault_of_unmapped⟩,
    rfl⟩

/-- Settles O58: `resetWith_inv` on the empty store. -/
theorem resetMeetsInvariant : Obligations.ResetMeetsInvariant :=
  State.resetWith_inv (cfg := RunConfig.default) Store.wf_empty

/-- Settles O2: without the page the machine starts in a fatal condition; with it the machine runs, and an absent line 0
halts it. -/
theorem firstTickAfterReset : Obligations.FirstTickAfterReset := by
  refine fun cfg => ⟨fun hunmapped => ?_, fun hmapped habsent => ?_⟩
  · refine step_of_frozen (State.frozen_iff.2 (.inr ?_))
    simp [State.resetWith_fault_of_unmapped hunmapped]
  · exact step_of_absent ⟨rfl, State.resetWith_fault_of_mapped hmapped⟩
      (State.fetchByte_eq_none_iff.2 (.inr ((State.resetWith_islot_get cfg 0).trans habsent)))

end Sys2Proof.Machine
end

section
/-!
PROOFS. Exceptions (spec/60_exceptions.md): a fatal condition changes `FAULT` alone (R210), exactly when each code is raised
(R211), and that every step answers a next state with the parameters of the run (00_scope.md section 4).
-/
namespace Sys2Proof.Machine

/-! ### Every step answers -/

@[simp] theorem mmuLkp_cfg (s : State) : (mmuLkp s).cfg = s.cfg := by
  rcases mmuLkp_cases s with heq | ⟨e, heq⟩ <;> simp [heq]

theorem execMmu_answers (f : MmuOp) (s : State) : ∃ t, execMmu f s = .next t ∧ t.cfg = s.cfg := by
  cases hm : s.mode with
  | application => exact ⟨_, execMmu_of_application hm f, rfl⟩
  | kernel =>
    refine ⟨_, execMmu_of_kernel hm f, ?_⟩
    cases f
    case lkp => exact mmuLkp_cfg s
    all_goals rfl

theorem execEnt_answers (n : SysNum) (s : State) : ∃ t, execEnt n s = .next t ∧ t.cfg = s.cfg := by
  cases hm : s.mode with
  | kernel => exact ⟨_, execEnt_of_kernel hm n, rfl⟩
  | application =>
    cases hc : s.cfg.kernelEntry with
    | none => exact ⟨_, execEnt_of_unconfigured hm hc n, rfl⟩
    | some e => exact ⟨_, execEnt_of_entry hm hc n, by rw [State.enterKernel_eq]⟩

/-- Every instruction has a meaning and writes none of the parameters of the run. -/
theorem exec_answers (i : Instr) (s : State) : ∃ t, exec i s = .next t ∧ t.cfg = s.cfg := by
  cases i
  case mmu f => exact execMmu_answers f s
  case ent n => exact execEnt_answers n s
  case brh cc b =>
    cases hcond : s.flags.holds cc with
    | true => exact ⟨_, exec_brh_of_holds b hcond, by simp⟩
    | false => exact ⟨_, exec_brh_of_not_holds b hcond, rfl⟩
  case pld p =>
    cases hdevice : s.hasDevice p with
    | true => exact ⟨_, exec_pld_of_device hdevice, by simp⟩
    | false => exact ⟨_, exec_pld_of_no_device hdevice, rfl⟩
  all_goals exact ⟨_, rfl, by simp⟩

/-- Settles O11: one lemma for each way of the tick, and `exec_answers` where it runs an instruction. -/
theorem everyStepAnswersAndKeepsParameters : Obligations.EveryStepAnswersAndKeepsParameters := by
  intro s
  cases hfrozen : s.frozen with
  | true => exact ⟨s, step_of_frozen hfrozen, rfl⟩
  | false =>
    have hrun : s.running := by simpa [State.frozen] using hfrozen
    cases hbyte : s.fetchByte with
    | none => exact ⟨_, step_of_absent hrun hbyte, rfl⟩
    | some b =>
      cases heu : s.eu with
      | await op k => exact step_of_await hrun heu hbyte ▸ exec_answers _ s
      | fetch =>
        cases hdecode : decodeByte b with
        | none => exact ⟨_, step_of_undecodable hrun heu hbyte hdecode, rfl⟩
        | some first =>
          obtain ⟨op, k⟩ := first
          cases hsecond : op.hasSecondary with
          | true => exact ⟨_, step_of_first_of_two hrun heu hbyte hdecode hsecond, rfl⟩
          | false => exact oneTick_of_decodeByte hdecode hsecond rfl s hrun heu hbyte ▸ exec_answers _ s

/-! ### A fatal condition changes `FAULT` alone -/

theorem exec_raises_only {i : Instr} {s t : State} (h : exec i s = .next t) (hne : t.fault ≠ s.fault) :
    ∃ code, t = s.raise code := by
  rcases exec_fault h with hkept | ⟨-, -, -, hraise⟩ | ⟨-, ⟨-, hraise⟩ | ⟨-, -, hraise⟩⟩
  · exact absurd hkept hne
  all_goals exact ⟨_, hraise⟩

/-- A step that changes `FAULT` is the raising of a fatal condition, and nothing more (R210). -/
theorem step_raises_only {s t : State} (hstep : step s = .next t) (hne : t.fault ≠ s.fault) : ∃ code, t = s.raise code := by
  rcases step_cases hstep with ⟨-, rfl⟩ | ⟨-, -, rfl⟩ | ⟨b, -, -, hcase⟩
  · exact absurd rfl hne
  · exact absurd rfl hne
  rcases hcase with ⟨-, -, hraise⟩ | ⟨op, k, -, -, -, rfl⟩ | ⟨op, k, -, -, -, h⟩ | ⟨op, k, -, h⟩
  · exact ⟨_, hraise⟩
  · exact absurd rfl hne
  · exact exec_raises_only h hne
  · exact exec_raises_only h hne

/-! ### Exactly when each code is raised -/

/-- The tick of a running machine raises code 1 exactly on an undecodable first byte (R212). -/
theorem step_undecodable_iff {s t : State} (hrun : s.running) (hstep : step s = .next t) :
    t.fault = some .undecodableInstruction ↔ s.eu = .fetch ∧ ∃ b, s.fetchByte = some b ∧ decodeByte b = none := by
  obtain ⟨-, -, honly⟩ := reservedByteFatalOnlyInFetch
  constructor
  · intro hfault
    obtain ⟨heu, b, hbyte, hreserved⟩ := honly s t hrun hstep hfault
    exact ⟨heu, b, hbyte, (decodeByte_eq_none_iff b).2 hreserved⟩
  · rintro ⟨heu, b, hbyte, hb⟩
    rw [step_of_undecodable hrun heu hbyte hb] at hstep
    obtain rfl := Host.Outcome.next.inj hstep
    rfl

section Codes

variable {i : Instr} {s t : State} (hnone : s.fault = none) (h : exec i s = .next t)
include hnone h

/-- The fatal conditions an instruction can raise, each with all it takes (R213 to R215). -/
theorem exec_raised {code : Fatal} (hfault : t.fault = some code) :
    (code = .unmappedSyscall ∧ i = .mmu .lkp ∧ s.mode = .kernel ∧ syscallIn s.cfg.syscallTable s.a = none) ∨
    (code = .nestedKernelCall ∧ (∃ n, i = .ent n) ∧ s.mode = .kernel) ∨
    (code = .kernelEntryUnconfigured ∧ (∃ n, i = .ent n) ∧ s.mode = .application ∧ s.cfg.kernelEntry = none) := by
  rcases exec_fault h with hkept | ⟨hi, hm, htable, rfl⟩ | ⟨hi, ⟨hm, rfl⟩ | ⟨hm, hentry, rfl⟩⟩
  · simp [hkept, hnone] at hfault
  · exact .inl ⟨(Option.some.inj hfault).symm, hi, hm, htable⟩
  · exact .inr (.inl ⟨(Option.some.inj hfault).symm, hi, hm⟩)
  · exact .inr (.inr ⟨(Option.some.inj hfault).symm, hi, hm, hentry⟩)

theorem exec_unmappedSyscall_iff :
    t.fault = some .unmappedSyscall ↔
      i = .mmu .lkp ∧ s.mode = .kernel ∧ ∀ e ∈ s.cfg.syscallTable, e.number ≠ s.a := by
  rw [← syscallIn_eq_none_iff]
  constructor
  · intro hfault
    rcases exec_raised hnone h hfault with ⟨-, hlkp⟩ | ⟨⟨⟩, -⟩ | ⟨⟨⟩, -⟩
    exact hlkp
  · rintro ⟨rfl, hm, htable⟩
    obtain rfl := Host.Outcome.next.inj ((execMmu_of_kernel hm .lkp).symm.trans h)
    exact congrArg State.fault (mmuLkp_of_none htable)

theorem exec_nestedKernelCall_iff :
    t.fault = some .nestedKernelCall ↔ (∃ n, i = .ent n) ∧ s.mode = .kernel := by
  constructor
  · intro hfault
    rcases exec_raised hnone h hfault with ⟨⟨⟩, -⟩ | ⟨-, hent⟩ | ⟨⟨⟩, -⟩
    exact hent
  · rintro ⟨⟨n, rfl⟩, hm⟩
    obtain rfl := Host.Outcome.next.inj ((execEnt_of_kernel hm n).symm.trans h)
    rfl

theorem exec_kernelEntryUnconfigured_iff :
    t.fault = some .kernelEntryUnconfigured ↔
      (∃ n, i = .ent n) ∧ s.mode = .application ∧ s.cfg.kernelEntry = none := by
  constructor
  · intro hfault
    rcases exec_raised hnone h hfault with ⟨⟨⟩, -⟩ | ⟨⟨⟩, -⟩ | ⟨-, hent⟩
    exact hent
  · rintro ⟨⟨n, rfl⟩, hm, hentry⟩
    obtain rfl := Host.Outcome.next.inj ((execEnt_of_unconfigured hm hentry n).symm.trans h)
    rfl

theorem exec_ne_noProgramEntry : t.fault ≠ some .noProgramEntry := by
  intro hfault
  rcases exec_raised hnone h hfault with ⟨⟨⟩, -⟩ | ⟨⟨⟩, -⟩ | ⟨⟨⟩, -⟩

end Codes

theorem State.resetWith_faultCode (cfg : RunConfig) :
    (State.resetWith cfg).faultCode = if cfg.store0.isMapped 0#8 0#3 = true then none else some 5 := by
  split
  case isTrue hmapped => rw [State.faultCode, State.resetWith_fault_of_mapped hmapped, Option.map_none]
  case isFalse hunmapped =>
    rw [State.faultCode, State.resetWith_fault_of_unmapped (Bool.eq_false_iff.2 hunmapped)]
    rfl

/-- Settles O8: `step_raises_only`, `step_of_frozen`, and one equivalence for each code, read through `faultCode`. -/
theorem fatalConditionsArePrecise : Obligations.FatalConditionsArePrecise := by
  refine fun s => ⟨fun t hstep hne => ?_, fun hset => step_of_frozen (State.frozen_iff.2 (.inr hset)),
    fun hrun t hstep => ?_, fun hnone i t h => ⟨?_, ?_, ?_, ?_, ?_⟩, State.resetWith_faultCode⟩
  · obtain ⟨code, rfl⟩ := step_raises_only hstep hne
    exact ⟨Option.some_ne_none code, rfl⟩
  · exact (t.faultCode_eq_some_iff .undecodableInstruction).trans (step_undecodable_iff hrun hstep)
  · exact mt (t.faultCode_eq_some_iff .undecodableInstruction).1 (exec_fault_ne_undecodable hnone h)
  · exact (t.faultCode_eq_some_iff .unmappedSyscall).trans (exec_unmappedSyscall_iff hnone h)
  · exact (t.faultCode_eq_some_iff .nestedKernelCall).trans (exec_nestedKernelCall_iff hnone h)
  · exact (t.faultCode_eq_some_iff .kernelEntryUnconfigured).trans (exec_kernelEntryUnconfigured_iff hnone h)
  · exact mt (t.faultCode_eq_some_iff .noProgramEntry).1 (exec_ne_noProgramEntry hnone h)

end Sys2Proof.Machine
end

section
/-!
PROOFS. The invariant every step keeps (spec/47_privilege_mmu.md R202, 10_state.md R20, R21, R33, 20_memory.md R44, R53,
40_cycle_and_nop.md R99): kept by each shared operation, then by each instruction, then by each way of the tick.
-/
namespace Sys2Proof.Machine

theorem Memory.set_ne_nil (m : Memory) (a : Nat) (v : Byte) : m.set a v ≠ [] := by
  intro hnil
  have hget := m.get_set_same a v
  simp [hnil] at hget

/-! ### The part of the invariant that instructions work on -/

/-- The clauses of the invariant on memory, the two slots and the registers that govern them: all but the two on `LINE` and
`EU`, which only completing an instruction restores. -/
structure State.StorageInv (s : State) : Prop where
  store_wf : s.store.wf = true
  islot_wf : s.islot.lines.wfLines = true
  dslot_wf : s.dslot.lines.wfLines = true
  fetch_segment : s.islot.valid = true → s.islot.seg = s.iseg
  kernel_override : s.kds ≠ none → s.mode = .kernel
  clean_clone : s.dslot.valid = true → s.dslot.dirty = false → s.dslot.lines = s.store.clone s.dslot.seg s.dslot.page
  dirty_lines : s.dslot.dirty = true → s.dslot.lines ≠ []

theorem State.Inv.storageInv {s : State} (h : s.Inv) : s.StorageInv := { h with }

namespace State.StorageInv

variable {s : State}

theorem congr {t : State} (h : s.StorageInv)
    (hkeep : t.store = s.store ∧ t.islot = s.islot ∧ t.dslot = s.dslot ∧ t.iseg = s.iseg ∧ t.kds = s.kds ∧ t.mode = s.mode) :
    t.StorageInv := by
  obtain ⟨hstore, hislot, hdslot, hiseg, hkds, hmode⟩ := hkeep
  constructor <;> simp only [hstore, hislot, hdslot, hiseg, hkds, hmode]
  exacts [h.store_wf, h.islot_wf, h.dslot_wf, h.fetch_segment, h.kernel_override, h.clean_clone, h.dirty_lines]

/-! ### Completing an instruction -/

/-- Back in `Fetch` no first byte is held, so `LINE` in range is all that is left (R20, R94). -/
theorem inv_goto (h : s.StorageInv) {line : Nat} (hline : line ≤ 32) : (s.goto line).Inv :=
  { h with line_le := hline, held := nofun }

theorem inv_advance (h : s.StorageInv) (hline : s.line ≤ 31) : s.advance.Inv := h.inv_goto (Nat.succ_le_succ hline)

/-! ### The cache controllers -/

/-- A miss clones a page of a store in canonical form (R46). -/
theorem icacheCtl (h : s.StorageInv) {seg : Segment} (hseg : seg = s.iseg) (page : PageNum) :
    (s.icacheCtl seg page).StorageInv := by
  cases hhit : s.islot.hits seg page with
  | true => rwa [State.icacheCtl_of_hit hhit]
  | false =>
    rw [State.icacheCtl_of_miss hhit]
    exact { h with islot_wf := Store.wfLines_clone h.store_wf seg page, fetch_segment := fun _ => hseg }

/-- A transfer clones from the instruction segment and goes to a line of the page (R151). -/
theorem inv_transfer (h : s.StorageInv) (addr : Byte) : (s.transfer addr).Inv :=
  (h.icacheCtl rfl _).inv_goto (lineOf_lt addr).le

/-- A dirty slot written back leaves a store in canonical form (R47). -/
theorem writeBack (h : s.StorageInv) : s.writeBack.StorageInv := by
  cases hd : s.dslot.dirty with
  | false => rwa [State.writeBack_of_clean hd]
  | true =>
    rw [State.writeBack_of_dirty hd]
    exact { h with
      store_wf := Store.wf_put h.store_wf _ _ h.dslot_wf
      clean_clone := fun _ hclean => absurd hclean (by simp [hd]) }

/-- A page loaded is a clean clone of a store in canonical form (R44, R47). -/
theorem loadData (h : s.StorageInv) (seg : Segment) (page : PageNum) : (s.loadData seg page).StorageInv :=
  { h with
    dslot_wf := Store.wfLines_clone h.store_wf seg page
    clean_clone := fun _ _ => rfl
    dirty_lines := nofun }

theorem dcacheCtl (h : s.StorageInv) (seg : Segment) (page : PageNum) : (s.dcacheCtl seg page).StorageInv := by
  cases hhit : s.dslot.hits seg page with
  | true => rwa [State.dcacheCtl_of_hit hhit]
  | false =>
    rw [State.dcacheCtl_of_miss hhit]
    exact h.writeBack.loadData seg page

/-- A write makes the slot dirty, with the statement written in it (R53). -/
theorem memWrite (h : s.StorageInv) (addr v : Byte) : (s.memWrite addr v).StorageInv :=
  have htouch : (s.touch addr).StorageInv := h.dcacheCtl _ _
  { htouch with
    dslot_wf := Memory.wfLines_set htouch.dslot_wf v (lineOf_lt addr)
    clean_clone := fun _ => nofun
    dirty_lines := fun _ => Memory.set_ne_nil _ _ _ }

/-! ### The segment registers and the mode -/

theorem setIseg (h : s.StorageInv) (seg : Segment) : (s.setIseg seg).StorageInv := { h with fetch_segment := nofun }

theorem setDs (h : s.StorageInv) (seg : Segment) : (s.setDs seg).StorageInv := { h with clean_clone := nofun }

theorem setKds_of_kernel (h : s.StorageInv) (hmode : s.mode = .kernel) (seg : Option Segment) :
    (s.setKds seg).StorageInv := { h with kernel_override := fun _ => hmode, clean_clone := nofun }

theorem setMode_kernel (h : s.StorageInv) : (s.setMode .kernel).StorageInv := { h with kernel_override := fun _ => rfl }

/-- Leaving kernel mode clears the kernel override with it (R33, R198). -/
theorem exitKernel (h : s.StorageInv) : s.exitKernel.StorageInv :=
  { h with kernel_override := absurd rfl, clean_clone := nofun }

/-- Setting `ISEG` and fetching from a page of it, as `ENT` and `MMU 4` do (R190, R197, R202). -/
theorem setIseg_icacheCtl (h : s.StorageInv) (seg : Segment) (page : PageNum) :
    ((s.setIseg seg).icacheCtl seg page).StorageInv := (h.setIseg seg).icacheCtl rfl page

end State.StorageInv

/-! ### Every instruction keeps the invariant -/

/-- A fatal condition changes no field the invariant speaks of (60_exceptions.md R210). -/
theorem State.Inv.raise {s : State} (h : s.Inv) (code : Fatal) : (s.raise code).Inv := { h with }

theorem execMmu_keeps_inv {f : MmuOp} {s t : State} (hinv : s.Inv) (hline : s.line ≤ 31) (h : execMmu f s = .next t) :
    t.Inv := by
  have hs := hinv.storageInv
  cases hm : s.mode with
  | application =>
    rw [execMmu_of_application hm] at h
    obtain rfl := Host.Outcome.next.inj h
    exact hs.inv_advance hline
  | kernel =>
    rw [execMmu_of_kernel hm] at h
    obtain rfl := Host.Outcome.next.inj h
    cases f
    case isg => exact (hs.setIseg s.a).inv_advance hline
    case dsg => exact (hs.setDs s.a).inv_advance hline
    case ksg => exact (hs.setKds_of_kernel hm (some s.a)).inv_advance hline
    case xkm => exact hs.exitKernel.inv_advance hline
    case lkp =>
      rcases mmuLkp_cases s with heq | ⟨e, heq⟩
      · exact heq ▸ hinv.raise _
      · exact heq ▸ (hs.setIseg_icacheCtl e.seg e.page).inv_goto (by decide)
    case psg => exact (hs.congr (t := s.pushC s.iseg) (by simp)).inv_advance hline
    case spi => exact (hs.congr (t := s.setPid s.a) (by simp)).inv_advance hline
    case gpi => exact (hs.congr (t := s.setReg .acc s.pid) (by simp)).inv_advance hline

theorem execEnt_keeps_inv {n : SysNum} {s t : State} (hinv : s.Inv) (h : execEnt n s = .next t) : t.Inv := by
  rcases execEnt_cases h with ⟨-, rfl⟩ | ⟨-, -, rfl⟩ | ⟨e, -, -, rfl⟩
  · exact hinv.raise _
  · exact hinv.raise _
  · have hpush : (s.pushP (n.setWidth 8)).StorageInv := hinv.storageInv.congr (by simp)
    exact (hpush.setMode_kernel.setIseg_icacheCtl e.seg e.page).inv_goto (by omega)

/-- An instruction run at a line of the page keeps the invariant. -/
theorem exec_keeps_inv {i : Instr} {s t : State} (hinv : s.Inv) (hline : s.line ≤ 31) (h : exec i s = .next t) :
    t.Inv := by
  have hs := hinv.storageInv
  have hclear : s.clearModifiers.StorageInv := hs.congr (by simp)
  cases i
  case mmu f => exact execMmu_keeps_inv hinv hline h
  case ent n => exact execEnt_keeps_inv hinv h
  case mld r b =>
    obtain rfl := Host.Outcome.next.inj h
    have htouch : (s.clearModifiers.touch (s.composedAddr b)).StorageInv := hclear.dcacheCtl _ _
    exact (htouch.congr (by simp)).inv_advance (by simpa using hline)
  case mst r b =>
    obtain rfl := Host.Outcome.next.inj h
    exact (hclear.memWrite _ _).inv_advance (by simpa using hline)
  case jmp b =>
    obtain rfl := Host.Outcome.next.inj h
    exact hclear.inv_transfer _
  case cal b =>
    obtain rfl := Host.Outcome.next.inj h
    exact (hs.congr (by simp)).inv_transfer _
  case ret =>
    obtain rfl := Host.Outcome.next.inj h
    exact (hs.congr (by simp)).inv_transfer _
  case brh cc b =>
    simp only [exec, execBrh] at h
    split at h
    · obtain rfl := Host.Outcome.next.inj h
      exact hclear.inv_transfer _
    · obtain rfl := Host.Outcome.next.inj h
      exact hclear.inv_advance hline
  case pld p =>
    simp only [exec, execPld] at h
    split at h <;>
      (obtain rfl := Host.Outcome.next.inj h; exact (hs.congr (by simp)).inv_advance (by simpa using hline))
  all_goals
    obtain rfl := Host.Outcome.next.inj h
    exact (hs.congr (by simp)).inv_advance (by simpa using hline)

/-! ### Every step keeps the invariant -/

theorem State.fetchByte_eq_some_iff {s : State} {b : Byte} :
    s.fetchByte = some b ↔ s.line ≤ 31 ∧ s.islot.lines.get s.line = some b := by
  simp [State.fetchByte]

/-- The first byte held is the one just fetched, and `LINE` stands behind it (R93, R99). -/
theorem State.Inv.holdFirst {s : State} {b : Byte} {op : Opcode} {k : Operand} (h : s.Inv) (hbyte : s.fetchByte = some b)
    (hdecode : decodeByte b = some (op, k)) (hsecond : op.hasSecondary = true) : (s.holdFirst op k).Inv := by
  obtain ⟨hline, hget⟩ := State.fetchByte_eq_some_iff.1 hbyte
  refine { h with line_le := Nat.succ_le_succ hline, held := ?_ }
  rintro _ _ ⟨⟩
  refine ⟨hsecond, Nat.succ_pos _, ?_⟩
  rw [State.holdFirst_line, Nat.add_sub_cancel, State.holdFirst_islot, hget]
  exact hdecode

/-- Settles O60: of the ways a step ends, a halt and a fatal condition change no field the invariant speaks of, a first byte
held is `Inv.holdFirst`, and an instruction run is `exec_keeps_inv`. -/
theorem stepKeepsInvariant : Obligations.StepKeepsInvariant := by
  intro s t hinv hstep
  rcases step_cases hstep with ⟨-, rfl⟩ | ⟨-, -, rfl⟩ | ⟨b, -, hbyte, hcase⟩
  · exact hinv
  · exact { hinv with }
  have hline := (State.fetchByte_eq_some_iff.1 hbyte).1
  rcases hcase with ⟨-, -, rfl⟩ | ⟨op, k, -, hdecode, hsecond, rfl⟩ | ⟨op, k, -, -, -, h⟩ | ⟨op, k, -, h⟩
  · exact hinv.raise _
  · exact hinv.holdFirst hbyte hdecode hsecond
  · exact exec_keeps_inv hinv hline h
  · exact exec_keeps_inv hinv hline h

end Sys2Proof.Machine
end
